-- ==== Sys2Proof/Word.lean ====
section
/-! DEFINITION. The words and the numbered things of the FC-8: octets, ports, nozzles and banks, with the
plainest arithmetic on them. -/

namespace Sys2Proof

/-- One octet of the station link. -/
abbrev Octet := BitVec 8

/-- A link port P0 to P7 (section 0.1). -/
abbrev PortId := Fin 8

/-- A nozzle, counted from 0: nozzle number n of the manual is `n - 1` here. -/
abbrev Nozzle := Fin 6

/-- A storage bank, counted from 0: bank number b of the manual is `b - 1` here. -/
abbrev BankId := Fin 12

/-- The manual's number of a nozzle, 1 to 6. -/
def nozzleNumber (n : Nozzle) : Nat := n.val + 1

/-- The manual's number of a bank, 1 to 12. -/
def bankNumber (b : BankId) : Nat := b.val + 1

/-- The dispenser port of a nozzle (R1): nozzle n is served by port P(n+1). -/
def portOfNozzle (n : Nozzle) : PortId := ⟨n.val + 2, by omega⟩

/-- The nozzle a port serves (R1): none for P0 and P1. -/
def nozzleOfPort (p : PortId) : Option Nozzle :=
  if h : 2 ≤ p.val then some ⟨p.val - 2, by omega⟩ else none

/-- The nozzle a number names, none outside 1 to 6. -/
def nozzleOfNumber (k : Nat) : Option Nozzle :=
  if h : 1 ≤ k ∧ k ≤ 6 then some ⟨k - 1, by omega⟩ else none

/-- The bank a number names, none outside 1 to 12. -/
def bankOfNumber (k : Nat) : Option BankId :=
  if h : 1 ≤ k ∧ k ≤ 12 then some ⟨k - 1, by omega⟩ else none

end Sys2Proof
end

