-- ==== Sys2Proof/Syntax.lean ====
section
/-! DEFINITION. The commands of the FC-8: one constructor for each row of spec/opcode_table.json, with the operands
that the row's rule gives it. A telegram's command carries the port it stands at, its tag and the fields of its body
(section 12.2); an expiry carries the port, nozzle or bank whose timer expires. -/

namespace Sys2Proof

/-- One entry of a WRITE_SETTINGS body: an identifier and a value (section 12.2). -/
structure SettingEntry where
  ident : BitVec 16
  value : BitVec 32
  deriving DecidableEq, Repr

/-- One entry of a BANK_SAMPLE body: bank, pressure, temperature (section 12.4). -/
structure SampleEntry where
  bank : Octet
  pressure : BitVec 24
  temperature : BitVec 16
  deriving DecidableEq, Repr

/-- The commands. `rest` operands are the octets of a body beyond its last whole entry (log entry 8). -/
inductive Instr where
  /-- RECEIVE_GAP_TIMEOUT (R3). -/
  | receiveGapTimeout (p : PortId)
  /-- TELEGRAM_ARRIVAL (R3, R4): octets arrive on the port, the last of them completing a telegram. -/
  | telegramArrival (p : PortId) (octets : List Octet)
  /-- LINK_TIMEOUT (R6). -/
  | linkTimeout (p : PortId)
  /-- TRANSMISSION_END (R14). -/
  | transmissionEnd (p : PortId)
  /-- HELLO (R5). -/
  | hello (p : PortId) (tag role nozzle : Octet)
  /-- STATUS (R17, R161); the part octet may be missing. -/
  | status (p : PortId) (tag : Octet) (part : Option Octet)
  /-- ISOLATE_BANK (R44). -/
  | isolateBank (p : PortId) (tag bank : Octet)
  /-- RESTORE_BANK (R45). -/
  | restoreBank (p : PortId) (tag bank : Octet)
  /-- PAUSE_FILLS (R130). -/
  | pauseFills (p : PortId) (tag : Octet) (seconds : BitVec 16)
  /-- CLEAR_COMPRESSOR_FAULT (R78). -/
  | clearCompressorFault (p : PortId) (tag : Octet)
  /-- WRITE_SETTINGS (R19, R20). -/
  | writeSettings (p : PortId) (tag group : Octet) (entries : List SettingEntry) (rest : List Octet)
  /-- SETTINGS_HAND_OVER (R20). -/
  | settingsHandOver
  /-- LOCK_GROUP (R22). -/
  | lockGroup (p : PortId) (tag group : Octet)
  /-- UNLOCK_GROUP (R22). -/
  | unlockGroup (p : PortId) (tag group : Octet)
  /-- SET_METROLOGY_LOCK (R23). -/
  | setMetrologyLock (p : PortId) (tag : Octet)
  /-- SET_CLOCK (R25). -/
  | setClock (p : PortId) (tag : Octet) (value : BitVec 32)
  /-- RESTART (R27). -/
  | restart (p : PortId) (tag : Octet)
  /-- COLD_START (R28). -/
  | coldStart (p : PortId) (tag : Octet)
  /-- AUTHORISE (R95); a mass limit of 0 means absent (section 12.1). -/
  | authorise (p : PortId) (tag nozzle : Octet) (moneyLimit : BitVec 32) (massLimit : BitVec 48)
      (customerClass priority : Octet)
  /-- CANCEL (R99). -/
  | cancel (p : PortId) (tag nozzle : Octet)
  /-- WRITE_TARIFF (R143): LP prices of customer classes 0 to 3, then the HP prices. -/
  | writeTariff (p : PortId) (tag : Octet) (prices : Vector (BitVec 16) 8) (effective : BitVec 32)
  /-- READ_RECORD (R156, R161). -/
  | readRecord (p : PortId) (tag : Octet) (seq : BitVec 32) (part : Option Octet)
  /-- ACKNOWLEDGE (R155). -/
  | acknowledge (p : PortId) (tag : Octet) (seq : BitVec 32)
  /-- ATTACH_REFERENCE (R157). -/
  | attachReference (p : PortId) (tag : Octet) (seq : BitVec 32) (reference : List Octet)
  /-- REFRESH_CHECK (R158). -/
  | refreshCheck (p : PortId) (tag : Octet) (seq : BitVec 32)
  /-- VERIFY_CHECK (R159). -/
  | verifyCheck (p : PortId) (tag : Octet) (seq word : BitVec 32)
  /-- BANK_SAMPLE (R33). -/
  | bankSample (p : PortId) (tag : Octet) (entries : List SampleEntry) (rest : List Octet)
  /-- CHILLER_SAMPLE (R81). -/
  | chillerSample (p : PortId) (tag : Octet) (supply : BitVec 16) (derate : Octet)
  /-- AMBIENT_SAMPLE (R86). -/
  | ambientSample (p : PortId) (tag : Octet) (a1 a2 a3 : BitVec 16)
  /-- COMPRESSOR_SAMPLE (R75). -/
  | compressorSample (p : PortId) (tag : Octet) (inlet discharge : BitVec 24)
  /-- NOZZLE_CONNECT (R97). -/
  | nozzleConnect (p : PortId) (tag vehicleClass dataPresent : Octet)
  /-- NOZZLE_HANG (R100). -/
  | nozzleHang (p : PortId) (tag : Octet)
  /-- STOP_PRESS (R101). -/
  | stopPress (p : PortId) (tag : Octet)
  /-- FIELD_SAMPLE (R94, R134). -/
  | fieldSample (p : PortId) (tag : Octet) (pressure : BitVec 24) (gas tank : BitVec 16) (flags : Octet)
      (count : BitVec 16)
  /-- VALVE_CONFIRM (R38). -/
  | valveConfirm (p : PortId) (tag bank generation state : Octet)
  /-- RUN_CONFIRM (R71). -/
  | runConfirm (p : PortId) (tag state : Octet)
  /-- FLOW_CONFIRM (R105). -/
  | flowConfirm (p : PortId) (tag generation state : Octet)
  /-- VENT_DONE (R111). -/
  | ventDone (p : PortId) (tag : Octet) (count : BitVec 16)
  /-- POWER_UP (R26): the core supply rises. -/
  | powerUp
  /-- RESET_ASSERT (R29). -/
  | resetAssert
  /-- RESET_RELEASE (R29). -/
  | resetRelease
  /-- CLOCK_SECOND (R24). -/
  | clockSecond
  /-- VALVE_OPEN_TIMEOUT (R40). -/
  | valveOpenTimeout (b : BankId)
  /-- VALVE_CLOSE_TIMEOUT (R43). -/
  | valveCloseTimeout (b : BankId)
  /-- RUN_START_TIMEOUT (R71). -/
  | runStartTimeout
  /-- RUN_STOP_TIMEOUT (R71). -/
  | runStopTimeout
  /-- STALL_WINDOW_EXPIRY (R76). -/
  | stallWindowExpiry
  /-- BACKOFF_EXPIRY (R76). -/
  | backoffExpiry
  /-- AMBIENT_HOLD_EXPIRY (R89). -/
  | ambientHoldExpiry
  /-- CONNECT_WAIT_EXPIRY (R98). -/
  | connectWaitExpiry (n : Nozzle)
  /-- RESOURCE_WAIT_EXPIRY (R104). -/
  | resourceWaitExpiry (n : Nozzle)
  /-- PULSE_DELAY_EXPIRY (R106). -/
  | pulseDelayExpiry (n : Nozzle)
  /-- PULSE_WIDTH_EXPIRY (R106). -/
  | pulseWidthExpiry (n : Nozzle)
  /-- SENSITIVE_PART_END (R107). -/
  | sensitivePartEnd (n : Nozzle)
  /-- SETTLE_WINDOW_END (R108). -/
  | settleWindowEnd (n : Nozzle)
  /-- FLOW_ORDER_TIMEOUT (R105). -/
  | flowOrderTimeout (n : Nozzle)
  /-- VENT_TIMEOUT (R111). -/
  | ventTimeout (n : Nozzle)
  /-- PROGRESS_TIMER_EXPIRY (R113). -/
  | progressTimerExpiry (n : Nozzle)
  /-- RAMP_STEP_EXPIRY (R119). -/
  | rampStepExpiry (n : Nozzle)
  /-- HOLD_PERIOD_EXPIRY (R129). -/
  | holdPeriodExpiry (n : Nozzle)
  /-- PAUSE_TIMER_EXPIRY (R131). -/
  | pauseTimerExpiry
  /-- STOP_THRESHOLD_REACHED (R139). -/
  | stopThresholdReached (n : Nozzle)
  /-- METER_FAULT_REPORT (R135). -/
  | meterFaultReport (n : Nozzle)
  /-- PACING_TIMER_EXPIRY (R154). -/
  | pacingTimerExpiry
  /-- OCTET_ARRIVAL (R3): one octet arrives on the port. -/
  | octetArrival (p : PortId) (octet : Octet)
  /-- CORE_SUPPLY_LOSS (R20, R26, R27): `disturbed` says whether the failure left the retained settings not
  matching their CRC (a settings write cut short). -/
  | coreSupplyLoss (disturbed : Bool)
  /-- RETAINED_DOMAIN_SUPPLY_LOSS (R26). -/
  | retainedDomainSupplyLoss
  deriving DecidableEq, Repr

end Sys2Proof
end

