-- ==== Sys2Proof/Decode.lean ====
section
/-! DEFINITION. The command that a word spells by the opcode table's bits. The table of this block gives no row any
bits, so no word spells a command (log entry 39). Telegrams are read from the line's octets by
`Machine.PortRec.receive` and `Machine.validTelegram`, and the command of a telegram by `Machine.commandOf`. -/

namespace Sys2Proof

/-- The command spelt by the word `w` of `nbits` bits: none, since spec/opcode_table.json gives no row bits. -/
def decodeTableWord (_nbits _w : Nat) : Option Instr := none

end Sys2Proof
end

