-- ==== Sys2Proof/Config.lean ====
section
/-! DEFINITION. What the manual leaves open and the model leaves free: opaque constants without a body, each applied
to a counter of the state (`Controller.freeCount`), so that nothing can be proved of their values. -/

namespace Sys2Proof.Config

/-- FREE VALUE (log entry 5). The octet sent where the manual gives a field of an answer no value: the state of a
nozzle that does not exist, in the refusal of a CANCEL (R99). -/
opaque freeOctet : Nat → Octet

/-- FREE VALUE (log entry 6). Whether the vehicle class is the HP class, where a NOZZLE_CONNECT carries a class
octet that is neither 01h nor 02h (R97, section 12.3). -/
opaque freeClassIsHP : Nat → Bool

/-- FREE VALUE (log entry 7). Whether the meter's report reaches the context before the judgement of the same
sample's pressures; R109, R122 and R139 allow either order. -/
opaque reportTakenFirst : Nat → Bool

/-- FREE VALUE (log entry 10). What the flow start field of a record's READ_RECORD answer holds while the record has
no flow start time, by sequence number (R161). -/
opaque absentFlowStart : Nat → BitVec 32

/-- FREE VALUE (log entry 10). What the precool class field of a record's READ_RECORD answer holds while the record has
no precool class, by sequence number (R161). -/
opaque absentPrecoolClass : Nat → Octet

end Sys2Proof.Config
end

