-- ==== Sys2Proof/Machine/Types.lean ====
section
/-! DEFINITION. The kinds of state the blocks of the FC-8 hold, chapter by chapter: plain data only. -/

namespace Sys2Proof.Machine

/-- A timer: stopped, or running with the milliseconds it has left. A timer whose milliseconds have run out stays
running at 0 until its expiry is taken (log entry 3). -/
abbrev Timer := Option Nat

/-! ## Chapter 1: station links -/

/-- The role of a port, fixed by its position (R1). -/
inductive Role where
  | plant | till | dispenser
  deriving DecidableEq, Repr

/-- The service flag of a port (R1, R2). -/
inductive ServiceFlag where
  | inService | unused
  deriving DecidableEq, Repr

/-- The link state of a port (R1). -/
inductive LinkState where
  | down | up
  deriving DecidableEq, Repr

/-- A telegram as it stands in a queue: kind, tag and body (section 12.1). -/
structure Telegram where
  kind : Octet
  tag : Octet
  body : List Octet
  deriving DecidableEq, Repr

/-- The result codes of R12. -/
inductive Result where
  | ok | busy | role | state | argument | locked | ringFull | unknownSeq | clockUnset
  deriving DecidableEq, Repr

/-- A port record (R1). The role is a function of the position (`roleOf`). -/
structure PortRec where
  /-- the port's service flag, taken from the LINKS group when it is handed over (R2) -/
  service : ServiceFlag
  link : LinkState
  /-- the octets of the telegram being received, its start octet first; empty while none is (R3) -/
  assembly : List Octet
  /-- the 2 ms gap timer of the assembly (R3) -/
  gapTimer : Timer
  /-- at most 8 telegrams, first in first out (R9) -/
  inbound : List Telegram
  /-- at most 12 telegrams, by priority and then by entry (R14) -/
  outbound : List Telegram
  /-- orders waiting for an outbound place (R15) -/
  orderHold : List Telegram
  linkTimer : Timer
  /-- the tag the next order on the port takes (R16) -/
  tagCounter : Octet
  /-- the telegram in transmission, if one is (R14) -/
  line : Option Telegram
  /-- the MODEL's own field: set while a request is carried out, so that an outbound place stays free for its
  answer (R10, R15; log entry 17); clear between steps -/
  answerPlace : Bool
  deriving DecidableEq, Repr

/-! ## Classes, tiers and the other named values -/

/-- The vehicle classes. -/
inductive VehicleClass where
  | lp | hp
  deriving DecidableEq, Repr

/-- The tiers of the banks, LOW below MID below HIGH. -/
inductive Tier where
  | low | mid | high
  deriving DecidableEq, Repr

/-- The precool classes, coldest first (R82). -/
inductive PrecoolClass where
  | t40 | t30 | t20 | noClass
  deriving DecidableEq, Repr

/-- The end reasons, in the order of section 12.3. -/
inductive EndReason where
  | cancelled | waitTimeout | storageLow | customerStop | valveTimeout | nozzleHung | vehicleFull | vehicleAbort
  | tankHot | overPressure | moneyLimit | massLimit | meterFault | leak | leakCheckUnstable | leakCheckInterrupted
  | targetReached | overRamp | segmentLimit | holdTimeout | dispenserLink | plantLink | restart
  deriving DecidableEq, Repr

/-! ## Chapter 2: settings and retained store -/

/-- The seven settings groups (R18). -/
inductive Group where
  | banks | ramp | precool | ambient | meter | tariffAccess | links
  deriving DecidableEq, Repr

/-- One value for each tier. -/
structure PerTier where
  low : Nat
  mid : Nat
  high : Nat
  deriving DecidableEq, Repr

/-- One value for each vehicle class. -/
structure PerClass where
  lp : Nat
  hp : Nat
  deriving DecidableEq, Repr

/-- The BANKS group (R32). -/
structure BanksGroup where
  /-- the actual bank count, 1 to 12 -/
  count : Nat
  tiers : Vector Tier 12
  startThreshold : PerTier
  stopThreshold : PerTier
  tierMaximum : PerTier
  differential : Nat
  preemptEnable : Bool
  preemptMinimum : Nat
  deriving DecidableEq, Repr

/-- A ramp table entry (R117): rate in kPa/s, end pressure in kPa, precool load. -/
structure RampEntry where
  rate : Nat
  pEnd : Nat
  load : Nat
  deriving DecidableEq, Repr

/-- The RAMP group (R37, R95, R102, R106, R117). Entries in units of 100 ms are held in those units, the others in
their own. -/
structure RampGroup where
  /-- by class, then band, then precool class (section 12.2) -/
  table : Vector RampEntry 48
  /-- ramp step Δ, the actual value in units of 100 ms -/
  step : Nat
  switchBand : Nat
  upperBand : Nat
  /-- lag count N, the actual value -/
  lagCount : Nat
  pulseDelay : Nat
  pulseWidth : Nat
  settleWindow : Nat
  sensitivePortion : Nat
  settleBand : Nat
  leakBand : Nat
  /-- in seconds -/
  holdLimit : Nat
  /-- in seconds -/
  connectWait : Nat
  /-- in seconds -/
  resourceWait : Nat
  orderTimeout : Nat
  deriving DecidableEq, Repr

/-- The PRECOOL group (R47). -/
structure PrecoolGroup where
  nominal : Nat
  compressorLoad : Nat
  deriving DecidableEq, Repr

/-- The reduction modes of R87. -/
inductive ReductionMode where
  | weighted | equal | primary
  deriving DecidableEq, Repr

/-- The AMBIENT group (R85): edges in tenths of a degree. -/
structure AmbientGroup where
  mode : ReductionMode
  edges : Vector Int 7
  deriving DecidableEq, Repr

/-- The METER group (R133). -/
structure MeterGroup where
  kFactor : Vector Nat 6
  maxPulses : Vector Nat 6
  vent : Vector (Vector Nat 8) 6
  classMaxMass : PerClass
  deriving DecidableEq, Repr

/-- The LINKS group (R18): service flags of P2 to P7, configured class of each nozzle, pacing interval in units of
100 ms. -/
structure LinksGroup where
  service : Vector ServiceFlag 6
  vehicleClass : Vector VehicleClass 6
  pacing : Nat
  deriving DecidableEq, Repr

/-- The settings groups (TARIFF-ACCESS has no entries). -/
structure Settings where
  banks : BanksGroup
  ramp : RampGroup
  precool : PrecoolGroup
  ambient : AmbientGroup
  meter : MeterGroup
  links : LinksGroup
  deriving DecidableEq, Repr

/-- The seven group locks, SET when true (R18). The TARIFF-ACCESS lock is the tariff lock of R132. -/
structure Locks where
  banks : Bool
  ramp : Bool
  precool : Bool
  ambient : Bool
  meter : Bool
  tariffAccess : Bool
  links : Bool
  deriving DecidableEq, Repr

/-- What the settings CRC covers (R18): the seven groups, their locks and the metrology lock. -/
structure SettingsImage where
  settings : Settings
  locks : Locks
  metrologyLock : Bool
  deriving DecidableEq, Repr

/-- One setting (sections 2.1 and 12.2): the entry an identifier names. -/
inductive SettingKey where
  | bankCount | bankTier (b : BankId) | startThreshold (t : Tier) | stopThreshold (t : Tier) | tierMaximum (t : Tier)
  | differential | preemptEnable | preemptMinimum
  | rampRate (i : Fin 48) | rampEnd (i : Fin 48) | rampLoad (i : Fin 48)
  | rampStep | switchBand | upperBand | lagCount | pulseDelay | pulseWidth | settleWindow | sensitivePortion
  | settleBand | leakBand | holdLimit | connectWait | resourceWait | orderTimeout
  | nominalCapacity | compressorLoad
  | reductionMode | bandEdge (i : Fin 7)
  | kFactor (n : Nozzle) | maxPulses (n : Nozzle) | ventCorrection (n : Nozzle) (i : Fin 8)
  | classMaxMass (v : VehicleClass)
  | serviceFlag (n : Nozzle) | configuredClass (n : Nozzle) | pacingInterval
  deriving DecidableEq, Repr

/-- The two kinds of start (R27). -/
inductive StartKind where
  | warm | cold
  deriving DecidableEq, Repr

/-- The Settings and Retained Store (R18, R24, R26). -/
structure Store where
  settings : Settings
  locks : Locks
  metrologyLock : Bool
  /-- the settings CRC, known by the contents it was computed over; none when it matches no contents (log entry 9) -/
  settingsCrc : Option SettingsImage
  clock : BitVec 32
  clockSet : Bool
  /-- the validity marker of retained memory, valid when true -/
  marker : Bool
  deriving DecidableEq, Repr

/-! ## Chapter 3: storage banks -/

/-- The states of a bank (R34). -/
inductive BankState where
  | idle | drawing | refilling | isolated
  deriving DecidableEq, Repr

/-- The holder of a bank, and the route of a valve order (R31, R37). -/
inductive Holder where
  | nozzle (n : Nozzle) | compressor
  deriving DecidableEq, Repr

/-- The action of a valve or flow order, and a valve or flow state (R37, R105). -/
inductive Valve where
  | opened | closed
  deriving DecidableEq, Repr

/-- A valve order in flight (R37). -/
structure ValveOrder where
  action : Valve
  tag : Octet
  route : Holder
  generation : Octet
  timer : Timer
  deriving DecidableEq, Repr

/-- A bank request as the bank list, a parked request or a next holder keeps it (R49, R57). -/
structure BankClaim where
  nozzle : Nozzle
  priority : Nat
  join : Nat
  vclass : VehicleClass
  floor : Tier
  required : Nat
  deriving DecidableEq, Repr

/-- A bank record (R31). The bank number is the record's place in the table. -/
structure BankRec where
  tier : Tier
  /-- kPa, none when UNKNOWN -/
  pressure : Option Nat
  /-- tenths of a degree, none when UNKNOWN -/
  temperature : Option Int
  state : BankState
  holder : Option Holder
  generation : Octet
  order : Option ValveOrder
  releasePending : Bool
  nextHolder : Option BankClaim
  deriving DecidableEq, Repr

/-! ## Chapter 4: claims and the precool account -/

/-- An entry of the precool list (R49). -/
structure PrecoolClaim where
  nozzle : Nozzle
  priority : Nat
  join : Nat
  amount : Nat
  deriving DecidableEq, Repr

/-- The Storage Allocator: the bank table, the precool account and the waiting lists (R31, R47, R49). -/
structure Allocator where
  /-- records 1 to 12; those above the bank count keep only their generation -/
  banks : Vector BankRec 12
  /-- the bank count in force -/
  bankCount : Nat
  derate : Nat
  capacity : Nat
  reservations : Vector Nat 6
  compressorReservation : Nat
  compressorHeld : Bool
  compressorClaim : Option BankId
  precoolList : List PrecoolClaim
  bankList : List BankClaim
  parked : Vector (Option BankClaim) 6
  deriving DecidableEq, Repr

/-! ## Chapter 5: compression -/

/-- The compressor states, in the order of section 12.3 (R65). -/
inductive CompressorState where
  | stopped | waitCooling | starting | running | backoff | starved | faulted
  deriving DecidableEq, Repr

/-- The action of a run order (R70). -/
inductive RunAction where
  | start | stop
  deriving DecidableEq, Repr

/-- A run order in flight (R70), with the bank it was handed for (log entry 22). -/
structure RunOrder where
  action : RunAction
  bank : Option BankId
  tag : Octet
  timer : Timer
  deriving DecidableEq, Repr

/-- The bank the compressor holds, with its release-requested mark (R65). -/
structure HeldBank where
  bank : BankId
  releaseRequested : Bool
  deriving DecidableEq, Repr

/-- A running stall window: milliseconds left and base discharge pressure, none while not yet known (R72, R75). -/
structure StallWindow where
  left : Nat
  base : Option Nat
  deriving DecidableEq, Repr

/-- The reasons a refill ends (R73). -/
inductive RefillEnd where
  | full | preempted | isolated | chillerShed | stall | starved | startUnconfirmed | valveUnconfirmed | plantLink
  deriving DecidableEq, Repr

/-- The compressor fault reasons (R78). -/
inductive FaultReason where
  | startUnconfirmed | stopUnconfirmed | valveUnconfirmed | stallLimit
  deriving DecidableEq, Repr

/-- The Compressor Scheduler (R65). -/
structure Scheduler where
  state : CompressorState
  queue : List BankId
  refillBank : Option BankId
  heldBank : Option HeldBank
  claimPending : Option BankId
  order : Option RunOrder
  stopPending : Bool
  runConfirmed : Bool
  valveOpen : Bool
  stallCount : Nat
  stallWindow : Option StallWindow
  backoff : Timer
  inlet : Option Nat
  discharge : Option Nat
  deriving DecidableEq, Repr

/-! ## Chapter 6: thermal monitor -/

/-- The ambient condition (R80). -/
inductive AmbientCondition where
  | known | held | unknown
  deriving DecidableEq, Repr

/-- The Thermal Monitor (R80). A sensor is its value while VALID and none while INVALID. The reduction mode and the
band edges are read from the AMBIENT group at each sample (R85; log entry 25). -/
structure Thermal where
  supply : Option Int
  precoolClass : PrecoolClass
  derate : Nat
  a1 : Option Int
  a2 : Option Int
  a3 : Option Int
  condition : AmbientCondition
  reduced : Option Int
  band : Fin 8
  holdTimer : Timer
  deriving DecidableEq, Repr

/-! ## Chapters 7 and 8: nozzle contexts -/

/-- The states of a nozzle context, in the order of R93. -/
inductive NozzleState where
  | idle | authorised | connected | waitResources | leakCheck | ramping | hold | ending | complete
  deriving DecidableEq, Repr

/-- The authorisation of a fill (R93, R95). -/
structure Authorisation where
  moneyLimit : Nat
  massLimit : Option Nat
  customerClass : Nat
  priority : Nat
  price : Nat
  seq : Nat
  deriving DecidableEq, Repr

/-- The ramp entry in use (R93, R117). -/
structure RampInUse where
  rate : Nat
  pEnd : Nat
  precoolClass : PrecoolClass
  load : Nat
  deriving DecidableEq, Repr

/-- One tenure of one bank: the current bank and the last bank of a context (R93). -/
structure BankRef where
  bank : BankId
  tier : Tier
  generation : Octet
  deriving DecidableEq, Repr

/-- The hold causes (section 8.6). -/
inductive HoldCause where
  | bankSwitch | precoolWarm | plantPause | derateShed
  deriving DecidableEq, Repr

/-- The hold cause set (R93, section 12.3). -/
structure HoldCauses where
  bankSwitch : Bool
  precoolWarm : Bool
  plantPause : Bool
  derateShed : Bool
  deriving DecidableEq, Repr

/-- The vehicle flags (section 12.3). -/
structure VehicleFlags where
  full : Bool
  abort : Bool
  deriving DecidableEq, Repr

/-- The phases of the leak check (R93, R106). -/
inductive LeakPhase where
  | opening | delay | pulse | closing | settle
  deriving DecidableEq, Repr

/-- The sensitive part of a settle window (R107): none of it left, the whole window, or the milliseconds left. -/
inductive SensitivePart where
  | over | whole | left (ms : Nat)
  deriving DecidableEq, Repr

/-- A flow order in flight (R105). -/
structure FlowOrder where
  action : Valve
  tag : Octet
  generation : Octet
  timer : Timer
  deriving DecidableEq, Repr

/-- A vent order in flight (R110). -/
structure VentOrder where
  tag : Octet
  timer : Timer
  deriving DecidableEq, Repr

/-- The hold accounting timer (R129): running or not, with the milliseconds left of the period begun. -/
structure HoldAccounting where
  running : Bool
  left : Nat
  deriving DecidableEq, Repr

/-- A nozzle context (R93). -/
structure Context where
  state : NozzleState
  vclass : VehicleClass
  connected : Bool
  vehicleData : Bool
  auth : Option Authorisation
  join : Option Nat
  bankRequestMade : Bool
  band : Option (Fin 8)
  entry : Option RampInUse
  /-- the target pressure in Pa -/
  target : Option Nat
  measured : Nat
  gasTemp : Option Int
  tankTemp : Option Int
  flags : Option VehicleFlags
  currentBank : Option BankRef
  lastBank : Option BankRef
  causes : HoldCauses
  holdUsed : Nat
  lagCount : Nat
  phase : Option LeakPhase
  reference : Nat
  restarts : Nat
  flow : Valve
  wanted : Valve
  flowOrder : Option FlowOrder
  ventOrder : Option VentOrder
  ventSettled : Bool
  bankSettled : Bool
  endReason : Option EndReason
  hangSeen : Bool
  releaseOutstanding : Bool
  connectWait : Timer
  resourceWait : Timer
  leakTimer : Timer
  sensitive : SensitivePart
  progressTimer : Timer
  rampTimer : Timer
  holdTimer : HoldAccounting
  deriving DecidableEq, Repr

/-! ## Chapter 9: metering, tariffs and charge -/

/-- The limit kind of a fill (R138). -/
inductive LimitKind where
  | money | mass
  deriving DecidableEq, Repr

/-- The fill limits (R138). -/
structure FillLimits where
  bStop : Nat
  bLim : Nat
  kind : LimitKind
  vMin : Nat
  threshold : Nat
  deriving DecidableEq, Repr

/-- The meter state of one nozzle (R132). -/
structure Meter where
  reference : Option (BitVec 16)
  metering : Bool
  implausible : Nat
  limits : Option FillLimits
  stopReported : Bool
  /-- the MODEL's own field: a stop threshold report made and not yet taken by the Sequencer (R139) -/
  stopReport : Option LimitKind
  /-- the MODEL's own field: a meter fault report made and not yet taken by the Sequencer (R135) -/
  faultReport : Bool
  deriving DecidableEq, Repr

/-- The PENDING tariff window (R132). -/
structure PendingTariff where
  prices : Vector (BitVec 16) 8
  effective : BitVec 32
  deriving DecidableEq, Repr

/-! ## Chapter 10: the transaction ring -/

/-- A segment of a record (R148). -/
structure Segment where
  bank : BankId
  tier : Tier
  openPressure : Option Nat
  closePressure : Option Nat
  mass : Nat
  deriving DecidableEq, Repr

/-- A transaction record (R148). Its owner is DEVICE while OPEN and TILL when CLOSED (R161). -/
structure Record where
  seq : Nat
  closed : Bool
  nozzle : Nozzle
  vclass : VehicleClass
  customerClass : Nat
  priority : Nat
  moneyLimit : Nat
  massLimit : Option Nat
  price : Nat
  authoriseTime : BitVec 32
  flowStart : Option (BitVec 32)
  closeTime : Option (BitVec 32)
  band : Option (Fin 8)
  rampRate : Option Nat
  precoolClass : Option PrecoolClass
  endPressure : Option Nat
  endReason : Option EndReason
  ventUnconfirmed : Bool
  degraded : Bool
  rebased : Bool
  segments : List Segment
  metered : Nat
  ventCorrection : Nat
  billable : Nat
  billed : Nat
  unbilled : Nat
  charge : Nat
  reference : Option (List Octet)
  checkWord : BitVec 32
  checkValid : Bool
  deriving DecidableEq, Repr

/-- The Transaction Ring (R147). The records held stand oldest first; the held count is their number, the oldest
unacknowledged is the first's number (the next sequence number while none is held), and the record at place i stands
in slot `nextSlot - held count + i`, modulo 64 (log entry 30). -/
structure Ring where
  records : List Record
  nextSeq : Nat
  /-- the slot the next record takes -/
  nextSlot : Fin 64
  noticeOwed : Bool
  pacing : Timer
  deriving DecidableEq, Repr

/-! ## What the blocks tell one another -/

/-- What one block tells or asks another within a step, taken one at a time in the order told, each with all that
follows from it before the next (log entry 4). -/
inductive Event where
  /-- a precool grant pass goes on (R51); `placed`: it has placed a parked request -/
  | grantPass (placed : Bool)
  /-- step 3 of R51 for the head just granted -/
  | placeParked (n : Nozzle) (placed : Bool)
  /-- a grant scan (R56) -/
  | grantScan
  /-- a bank request reaches the Allocator with its required pressure (R54) -/
  | bankRequest (k : BankClaim)
  /-- preemption is judged for a nozzle's request (R57) -/
  | judgePreemption (n : Nozzle)
  /-- one entry of a BANK_SAMPLE (R33) -/
  | bankSampleEntry (b : BankId) (pressure : Nat) (temperature : Int)
  /-- the Thermal Monitor gives a derate (R48, R81) -/
  | derateGiven (d : Nat)
  /-- a start attempt is run (R68) -/
  | startAttempt
  /-- a bank sample is handed to the Scheduler (R66) -/
  | bankSampled (b : BankId)
  /-- the Scheduler is told that a bank is ISOLATED (R67, R74) -/
  | bankIsolated (b : BankId)
  /-- the Scheduler is told that its bank's valve is open (R72) -/
  | compressorValveOpen
  /-- the Scheduler is told that its bank's valve did not open (R78) -/
  | compressorValveFailed (b : BankId)
  /-- the Scheduler is told that the release of the bank held is complete (R73) -/
  | compressorReleased (b : BankId)
  /-- the Scheduler is told that the refill ends PREEMPTED (R74) -/
  | refillPreempted
  /-- the Scheduler is told that the refill ends CHILLER_SHED (R74) -/
  | refillShed
  /-- the Sequencer is told that a nozzle's precool is granted (R102, R129) -/
  | precoolGranted (n : Nozzle)
  /-- the Sequencer is told that a nozzle's reservation is shed (R61) -/
  | nozzleShed (n : Nozzle)
  /-- the Sequencer is told of a bank grant (R103, R126) -/
  | bankGranted (n : Nozzle) (ref : BankRef) (pressure : Option Nat)
  /-- the Sequencer is told that a bank's valve is open (R106, R126) -/
  | valveOpened (n : Nozzle) (b : BankId)
  /-- the Sequencer is told that a bank's valve did not open (R106, R126) -/
  | valveFailed (n : Nozzle) (b : BankId)
  /-- the Sequencer is told that a release is complete, with the bank's pressure (R110, R125) -/
  | bankReleased (n : Nozzle) (b : BankId) (pressure : Option Nat)
  /-- the Sequencer is told that a bank is lost by isolation, with its last pressure (R109, R110, R127) -/
  | bankLost (n : Nozzle) (b : BankId) (pressure : Option Nat)
  /-- a bank request is answered STORAGE_LOW (R103, R125) -/
  | storageLow (n : Nozzle)
  /-- the Sequencer is told of a precool class change (R83, R123) -/
  | classChanged (new : PrecoolClass)
  /-- a written setting is handed to its owner (R20) -/
  | handOver (k : SettingKey)
  /-- the bank entries of one write are handed to the Scheduler, the banks whose tiers it changed among them (R32, R67) -/
  | banksHandedOver (moved : List BankId)
  /-- the Transaction Ring is told that the till port is UP (R5) -/
  | tillUp
  deriving DecidableEq, Repr

end Sys2Proof.Machine
end

