-- ==== Sys2Proof/Machine/Defaults.lean ====
section
/-! DEFINITION. The values after a start: the cold start defaults of the settings, and the warm restart values of
every block (R1, R18, R31, R32, R47, R49, R65, R80, R85, R93, R117, R132, R133, R147). -/

namespace Sys2Proof.Machine

/-- Place of an entry in the ramp table: class, then band, then precool class (section 12.2); none for NONE. -/
def rampSlot (v : VehicleClass) (band : Fin 8) (k : PrecoolClass) : Option (Fin 48) :=
  let base := (match v with | .lp => 0 | .hp => 24) + band.val * 3
  match k with
  | .t40 => some (Fin.ofNat 48 base)
  | .t30 => some (Fin.ofNat 48 (base + 1))
  | .t20 => some (Fin.ofNat 48 (base + 2))
  | .noClass => none

/-- The cold start ramp table (R117), by class, band and place of the precool class (T40, T30, T20). -/
def defaultRampEntry (isHP : Bool) (band k : Nat) : RampEntry :=
  match isHP, k with
  | true, 0 => if band ≤ 3 then ⟨400, 87000, 22⟩ else if band ≤ 5 then ⟨300, 84000, 28⟩ else ⟨200, 80000, 34⟩
  | true, 1 => if band ≤ 5 then ⟨200, 80000, 20⟩ else ⟨0, 80000, 20⟩
  | true, _ => ⟨0, 75000, 16⟩
  | false, 0 => ⟨150, 43000, 18⟩
  | false, 1 => ⟨150, 43000, 14⟩
  | false, _ => if band ≤ 5 then ⟨120, 42000, 10⟩ else ⟨80, 40000, 10⟩

/-- The default BANKS group (R32). -/
def defaultBanks : BanksGroup where
  count := 9
  tiers := #v[.low, .low, .low, .mid, .mid, .mid, .high, .high, .high, .low, .mid, .high]
  startThreshold := ⟨30000, 55000, 80000⟩
  stopThreshold := ⟨45000, 70000, 95000⟩
  tierMaximum := ⟨50000, 75000, 100000⟩
  differential := 2000
  preemptEnable := true
  preemptMinimum := 0

/-- The default RAMP group (R37, R95, R102, R106, R117). -/
def defaultRamp : RampGroup where
  table := Vector.ofFn fun i => defaultRampEntry (24 ≤ i.val) (i.val % 24 / 3) (i.val % 3)
  step := 5
  switchBand := 2500
  upperBand := 7000
  lagCount := 4
  pulseDelay := 5
  pulseWidth := 20
  settleWindow := 100
  sensitivePortion := 60
  settleBand := 300
  leakBand := 500
  holdLimit := 120
  connectWait := 120
  resourceWait := 180
  orderTimeout := 20

/-- The default METER group (R133). -/
def defaultMeter : MeterGroup where
  kFactor := Vector.replicate 6 100
  maxPulses := Vector.replicate 6 400
  vent := Vector.replicate 6 #v[150, 210, 270, 340, 420, 500, 590, 680]
  classMaxMass := ⟨5000000, 800000⟩

/-- The cold start settings (R30). -/
def defaultSettings : Settings where
  banks := defaultBanks
  ramp := defaultRamp
  precool := ⟨100, 30⟩
  ambient := ⟨.weighted, #v[-200, -100, 0, 100, 200, 300, 400]⟩
  meter := defaultMeter
  links := ⟨Vector.replicate 6 .inService, #v[.lp, .lp, .lp, .hp, .hp, .hp], 10⟩

/-- All seven group locks CLEAR (R18). -/
def clearLocks : Locks := ⟨false, false, false, false, false, false, false⟩

/-- The store after a cold start (R30): defaults, no lock, clock 0 and unset, the CRC of the defaults, marker valid. -/
def coldStore : Store where
  settings := defaultSettings
  locks := clearLocks
  metrologyLock := false
  settingsCrc := some ⟨defaultSettings, clearLocks, false⟩
  clock := 0
  clockSet := false
  marker := true

/-- The service flag of a port in the settings: P0 and P1 are always in service (R1). -/
def serviceOf (l : LinksGroup) (p : PortId) : ServiceFlag :=
  match nozzleOfPort p with
  | some n => l.service[n]
  | none => .inService

/-- A port record after a start (R1), with its service flag. -/
def restPort (f : ServiceFlag) : PortRec where
  service := f
  link := .down
  assembly := []
  gapTimer := none
  inbound := []
  outbound := []
  orderHold := []
  linkTimer := none
  tagCounter := 0
  line := none
  answerPlace := false

/-- An IDLE bank without a holder (R31), of a tier and a generation. -/
def restBank (tier : Tier) (generation : Octet) : BankRec where
  tier := tier
  pressure := none
  temperature := none
  state := .idle
  holder := none
  generation := generation
  order := none
  releasePending := false
  nextHolder := none

/-- The Allocator after a cold start (R31, R47, R49). -/
def coldAllocator : Allocator where
  banks := Vector.ofFn fun b => restBank defaultBanks.tiers[b] 0
  bankCount := 9
  derate := 0
  capacity := 100
  reservations := Vector.replicate 6 0
  compressorReservation := 0
  compressorHeld := false
  compressorClaim := none
  precoolList := []
  bankList := []
  parked := Vector.replicate 6 none

/-- The Scheduler after a start (R65). -/
def restScheduler : Scheduler where
  state := .stopped
  queue := []
  refillBank := none
  heldBank := none
  claimPending := none
  order := none
  stopPending := false
  runConfirmed := false
  valveOpen := false
  stallCount := 0
  stallWindow := none
  backoff := none
  inlet := none
  discharge := none

/-- The Thermal Monitor after a start (R80, R92). -/
def restThermal : Thermal where
  supply := none
  precoolClass := .noClass
  derate := 0
  a1 := none
  a2 := none
  a3 := none
  condition := .unknown
  reduced := none
  band := 7
  holdTimer := none

/-- No hold cause (R93). -/
def noCauses : HoldCauses := ⟨false, false, false, false⟩

/-- The hold accounting stopped, with no part of a period kept (R93). -/
def restHold : HoldAccounting := ⟨false, 1000⟩

/-- A nozzle context after a start (R93), with the nozzle's configured class. -/
def restContext (v : VehicleClass) : Context where
  state := .idle
  vclass := v
  connected := false
  vehicleData := false
  auth := none
  join := none
  bankRequestMade := false
  band := none
  entry := none
  target := none
  measured := 0
  gasTemp := none
  tankTemp := none
  flags := none
  currentBank := none
  lastBank := none
  causes := noCauses
  holdUsed := 0
  lagCount := 0
  phase := none
  reference := 0
  restarts := 0
  flow := .closed
  wanted := .closed
  flowOrder := none
  ventOrder := none
  ventSettled := false
  bankSettled := false
  endReason := none
  hangSeen := false
  releaseOutstanding := false
  connectWait := none
  resourceWait := none
  leakTimer := none
  sensitive := .over
  progressTimer := none
  rampTimer := none
  holdTimer := restHold

/-- A nozzle's meter state after a start (R132). -/
def restMeter : Meter where
  reference := none
  metering := false
  implausible := 0
  limits := none
  stopReported := false
  stopReport := none
  faultReport := false

/-- The ring after a cold start (R147). -/
def coldRing : Ring where
  records := []
  nextSeq := 1
  nextSlot := 0
  noticeOwed := false
  pacing := none

end Sys2Proof.Machine
end

