-- ==== Sys2Proof/Machine/Flags.lean ====
section
/-! DEFINITION. The fields carried as bit sets (section 12.3), and the hold cause set as a set (section 8.6). -/

namespace Sys2Proof.Machine

/-- One bit of a bit set. -/
def bit (b : Bool) (place : Nat) : Octet := if b then BitVec.ofNat 8 (2 ^ place) else 0

/-- The hold cause set octet: BANK_SWITCH, PRECOOL_WARM, PLANT_PAUSE, DERATE_SHED. -/
def HoldCauses.octet (h : HoldCauses) : Octet :=
  bit h.bankSwitch 0 ||| bit h.precoolWarm 1 ||| bit h.plantPause 2 ||| bit h.derateShed 3

/-- Whether no cause stands. -/
def HoldCauses.isEmpty (h : HoldCauses) : Bool :=
  !(h.bankSwitch || h.precoolWarm || h.plantPause || h.derateShed)

/-- Whether a cause stands. -/
def HoldCauses.has (h : HoldCauses) : HoldCause → Bool
  | .bankSwitch => h.bankSwitch
  | .precoolWarm => h.precoolWarm
  | .plantPause => h.plantPause
  | .derateShed => h.derateShed

/-- The set with a cause added (true) or removed (false). -/
def HoldCauses.put (h : HoldCauses) (k : HoldCause) (v : Bool) : HoldCauses :=
  match k with
  | .bankSwitch => { h with bankSwitch := v }
  | .precoolWarm => { h with precoolWarm := v }
  | .plantPause => { h with plantPause := v }
  | .derateShed => { h with derateShed := v }

/-- The vehicle flags an octet carries: FULL in bit 0, ABORT in bit 1, the others ignored. -/
def vehicleFlags (o : Octet) : VehicleFlags := ⟨o.getLsbD 0, o.getLsbD 1⟩

/-- The record flags octet: VENT_UNCONFIRMED, DEGRADED, METER_REBASED, check-valid, flow start present. -/
def Record.flagsOctet (r : Record) : Octet :=
  bit r.ventUnconfirmed 0 ||| bit r.degraded 1 ||| bit r.rebased 2 ||| bit r.checkValid 3 ||| bit r.flowStart.isSome 4

/-- The record flags with bits 3 and 4 forced to 0, as the billing layout takes them (section 12.5). -/
def Record.billingFlags (r : Record) : Octet :=
  bit r.ventUnconfirmed 0 ||| bit r.degraded 1 ||| bit r.rebased 2

/-- The port octet of STATUS part 0: bit 0 set when UNUSED, bit 1 set when UP (R161). -/
def PortRec.statusOctet (r : PortRec) : Octet :=
  bit (r.service == .unused) 0 ||| bit (r.link == .up) 1

end Sys2Proof.Machine
end

