-- ==== Sys2Proof/Machine/Formats.lean ====
section
/-! DEFINITION. Chapter 12: kind codes, value codes, field encodings, the frame with its CRC-16, and the layouts of the
bodies that the FC-8 sends. -/

namespace Sys2Proof.Machine

/-! ## Field encodings (section 12.1) -/

/-- `n` octets of a number, the most significant first. -/
def octets : Nat → Nat → List Octet
  | 0, _ => []
  | n + 1, v => BitVec.ofNat 8 (v / 256 ^ n) :: octets n v

/-- The number that octets carry, the most significant first. -/
def number (l : List Octet) : Nat := l.foldl (fun v o => v * 256 + o.toNat) 0

/-- A pressure of 3 octets, FFFFFFh when UNKNOWN or absent. -/
def pressureField : Option Nat → List Octet
  | some p => octets 3 p
  | none => [0xFF, 0xFF, 0xFF]

/-- A temperature of 2 octets in two's complement, 8000h when UNKNOWN or absent. -/
def temperatureField : Option Int → List Octet
  | some t => octets 2 (t % 65536).toNat
  | none => [0x80, 0x00]

/-! ## CRCs (R159, R160) -/

/-- `k` shifts of a CRC register, most significant bit first. -/
def crcShift {w : Nat} (poly : BitVec w) : Nat → BitVec w → BitVec w
  | 0, r => r
  | k + 1, r => crcShift poly k (if r.msb then (r <<< 1) ^^^ poly else r <<< 1)

/-- The CRC-16 of R160: generator 1021h, register from FFFFh, not complemented. -/
def crc16 (l : List Octet) : BitVec 16 :=
  l.foldl (fun r o => crcShift 0x1021 8 (r ^^^ (BitVec.setWidth 16 o <<< (8 : Nat)))) 0xFFFF

/-- The CRC-32 of R159: generator 04C11DB7h, register from all ones, complemented at the end. -/
def crc32 (l : List Octet) : BitVec 32 :=
  ~~~ l.foldl (fun r o => crcShift 0x04C11DB7 8 (r ^^^ (BitVec.setWidth 32 o <<< (24 : Nat)))) 0xFFFFFFFF

/-! ## Kinds (section 12.2) -/

/-- The families of arriving telegrams (section 0.1, R10). -/
inductive Family where
  | request | report | confirmation
  deriving DecidableEq, Repr

/-- A kind that may arrive: its family and the body lengths it permits (section 12.2). -/
structure KindInfo where
  family : Family
  least : Nat
  most : Nat
  deriving DecidableEq, Repr

/-- The kinds defined for telegrams arriving at the FC-8 (section 12.2). -/
def kindInfo (kind : Octet) : Option KindInfo :=
  match kind.toNat with
  | 0x01 => some ⟨.request, 2, 2⟩
  | 0x02 => some ⟨.request, 0, 1⟩
  | 0x10 => some ⟨.request, 1, 1⟩
  | 0x11 => some ⟨.request, 1, 1⟩
  | 0x12 => some ⟨.request, 2, 2⟩
  | 0x13 => some ⟨.request, 0, 0⟩
  | 0x14 => some ⟨.request, 7, 115⟩
  | 0x15 => some ⟨.request, 1, 1⟩
  | 0x16 => some ⟨.request, 1, 1⟩
  | 0x17 => some ⟨.request, 0, 0⟩
  | 0x18 => some ⟨.request, 4, 4⟩
  | 0x19 => some ⟨.request, 0, 0⟩
  | 0x1A => some ⟨.request, 0, 0⟩
  | 0x20 => some ⟨.request, 13, 13⟩
  | 0x21 => some ⟨.request, 1, 1⟩
  | 0x22 => some ⟨.request, 20, 20⟩
  | 0x23 => some ⟨.request, 4, 5⟩
  | 0x24 => some ⟨.request, 4, 4⟩
  | 0x25 => some ⟨.request, 4, 20⟩
  | 0x26 => some ⟨.request, 4, 4⟩
  | 0x27 => some ⟨.request, 8, 8⟩
  | 0x30 => some ⟨.report, 6, 72⟩
  | 0x31 => some ⟨.report, 3, 3⟩
  | 0x32 => some ⟨.report, 6, 6⟩
  | 0x33 => some ⟨.report, 6, 6⟩
  | 0x38 => some ⟨.report, 2, 2⟩
  | 0x39 => some ⟨.report, 0, 0⟩
  | 0x3A => some ⟨.report, 0, 0⟩
  | 0x3B => some ⟨.report, 10, 10⟩
  | 0x40 => some ⟨.confirmation, 3, 3⟩
  | 0x41 => some ⟨.confirmation, 1, 1⟩
  | 0x42 => some ⟨.confirmation, 2, 2⟩
  | 0x43 => some ⟨.confirmation, 2, 2⟩
  | _ => none

/-- Tests 3 and 4 of R3: the kind is defined and permits the body length. -/
def Telegram.permitted (t : Telegram) : Bool :=
  match kindInfo t.kind with
  | some k => k.least ≤ t.body.length && t.body.length ≤ k.most
  | none => false

/-- Whether a telegram is a request. -/
def Telegram.isRequest (t : Telegram) : Bool :=
  match kindInfo t.kind with
  | some ⟨.request, _, _⟩ => true
  | _ => false

/-- The role of a port (R1). -/
def roleOf (p : PortId) : Role :=
  if p.val = 0 then .plant else if p.val = 1 then .till else .dispenser

/-- The role filter of R11: whether a role may send a kind. -/
def roleMaySend (r : Role) (kind : Octet) : Bool :=
  match r with
  | .plant => [0x01, 0x02, 0x10, 0x11, 0x12, 0x13, 0x14, 0x15, 0x16, 0x17, 0x18, 0x19, 0x1A, 0x30, 0x31, 0x32, 0x33,
      0x40, 0x41].contains kind.toNat
  | .till => [0x01, 0x02, 0x20, 0x21, 0x22, 0x23, 0x24, 0x25, 0x26, 0x27].contains kind.toNat
  | .dispenser => [0x01, 0x02, 0x38, 0x39, 0x3A, 0x3B, 0x42, 0x43].contains kind.toNat

/-- The priority of a telegram in the outbound queue (section 1.7): orders 2, answers 1, notices 0. -/
def Telegram.priority (t : Telegram) : Nat :=
  if t.kind.toNat ≥ 0x80 then 1 else if 0x50 ≤ t.kind.toNat ∧ t.kind.toNat ≤ 0x53 then 2 else 0

/-! ## Frame (section 12.1) -/

/-- The octets of a telegram on the line: start octet, length, kind, tag, body, CRC-16. -/
def Telegram.frame (t : Telegram) : List Octet :=
  let covered := BitVec.ofNat 8 t.body.length :: t.kind :: t.tag :: t.body
  0x7E :: covered ++ octets 2 (crc16 covered).toNat

/-- Tests 1 to 4 of R3 on the octets of a completed assembly, the start octet first: the telegram if it is valid. -/
def validTelegram (a : List Octet) : Option Telegram :=
  match a with
  | _ :: len :: kind :: tag :: more =>
    let t : Telegram := ⟨kind, tag, more.take len.toNat⟩
    if len.toNat ≤ 120 ∧ more.drop len.toNat = octets 2 (crc16 (len :: kind :: tag :: t.body)).toNat ∧
        t.permitted = true then some t else none
  | _ => none

/-! ## Value codes (section 12.3) -/

def Result.code : Result → Octet
  | .ok => 0x00 | .busy => 0x01 | .role => 0x02 | .state => 0x03 | .argument => 0x04 | .locked => 0x05
  | .ringFull => 0x06 | .unknownSeq => 0x07 | .clockUnset => 0x08

def Role.code : Role → Octet
  | .plant => 0x01 | .till => 0x02 | .dispenser => 0x03

def VehicleClass.code : VehicleClass → Octet
  | .lp => 0x01 | .hp => 0x02

def Tier.code : Tier → Octet
  | .low => 0x01 | .mid => 0x02 | .high => 0x03

def PrecoolClass.code : PrecoolClass → Octet
  | .noClass => 0x00 | .t20 => 0x01 | .t30 => 0x02 | .t40 => 0x03

def BankState.code : BankState → Octet
  | .idle => 0x01 | .drawing => 0x02 | .refilling => 0x03 | .isolated => 0x04

def Holder.code : Holder → Octet
  | .nozzle n => BitVec.ofNat 8 (nozzleNumber n)
  | .compressor => 0x07

def holderCode : Option Holder → Octet
  | some h => h.code
  | none => 0x00

def NozzleState.code : NozzleState → Octet
  | .idle => 0x01 | .authorised => 0x02 | .connected => 0x03 | .waitResources => 0x04 | .leakCheck => 0x05
  | .ramping => 0x06 | .hold => 0x07 | .ending => 0x08 | .complete => 0x09

def CompressorState.code : CompressorState → Octet
  | .stopped => 0x01 | .waitCooling => 0x02 | .starting => 0x03 | .running => 0x04 | .backoff => 0x05
  | .starved => 0x06 | .faulted => 0x07

def Valve.code : Valve → Octet
  | .opened => 0x01 | .closed => 0x02

def RunAction.code : RunAction → Octet
  | .start => 0x01 | .stop => 0x02

def EndReason.code : EndReason → Octet
  | .cancelled => 0x01 | .waitTimeout => 0x02 | .storageLow => 0x03 | .customerStop => 0x04 | .valveTimeout => 0x05
  | .nozzleHung => 0x06 | .vehicleFull => 0x07 | .vehicleAbort => 0x08 | .tankHot => 0x09 | .overPressure => 0x0A
  | .moneyLimit => 0x0B | .massLimit => 0x0C | .meterFault => 0x0D | .leak => 0x0E | .leakCheckUnstable => 0x0F
  | .leakCheckInterrupted => 0x10 | .targetReached => 0x11 | .overRamp => 0x12 | .segmentLimit => 0x13
  | .holdTimeout => 0x14 | .dispenserLink => 0x15 | .plantLink => 0x16 | .restart => 0x17

def endReasonCode : Option EndReason → Octet
  | some r => r.code
  | none => 0x00

def FaultReason.code : FaultReason → Octet
  | .startUnconfirmed => 0x01 | .stopUnconfirmed => 0x02 | .valveUnconfirmed => 0x03 | .stallLimit => 0x04

/-- A bank number as an octet, 0 for none. -/
def bankCode : Option BankId → Octet
  | some b => BitVec.ofNat 8 (bankNumber b)
  | none => 0x00

/-! ## Order and notice bodies (section 12.4) -/

/-- BANK_VALVE (7). -/
def bankValveBody (b : BankId) (route : Holder) (action : Valve) (generation : Octet) (limit : Nat) : List Octet :=
  [bankCode (some b), route.code, action.code, generation] ++ octets 3 limit

/-- COMPRESSOR_RUN (2). -/
def compressorRunBody (action : RunAction) (b : Option BankId) : List Octet := [action.code, bankCode b]

/-- FLOW (2). -/
def flowBody (action : Valve) (generation : Octet) : List Octet := [action.code, generation]

/-- PLANT_ALERT with cause AUTO_ISOLATED (9). -/
def autoIsolatedBody (b : BankId) (generation : Octet) (route : Holder) (pressure : Option Nat)
    (temperature : Option Int) : List Octet :=
  [0x01, bankCode (some b), generation, route.code] ++ pressureField pressure ++ temperatureField temperature

/-- PLANT_ALERT with cause COMPRESSOR_FAULTED (4); the bank is that of the refill or run order concerned (log entry
22). -/
def compressorFaultedBody (why : FaultReason) (b : Option BankId) (stalls : Nat) : List Octet :=
  [0x02, why.code, bankCode b, BitVec.ofNat 8 stalls]

/-- PLANT_ALERT with cause UNEXPLAINED_FLOW (12). -/
def unexplainedFlowBody (n : Nozzle) (increment : Nat) (count : BitVec 16) (mass : Nat) : List Octet :=
  [0x03, BitVec.ofNat 8 (nozzleNumber n)] ++ octets 2 increment ++ octets 2 count.toNat ++ octets 6 mass

/-- RECORDS_READY (8). -/
def recordsReadyBody (oldest newest : Nat) : List Octet := octets 4 oldest ++ octets 4 newest

/-- The target in kPa, rounded down, 0 while there is no target (R113). -/
def targetKPa : Option Nat → Nat
  | some t => t / 1000
  | none => 0

/-- FILL_PROGRESS (25). -/
def fillProgressBody (n : Nozzle) (seq : Nat) (x : Context) (metered charge : Nat) : List Octet :=
  [BitVec.ofNat 8 (nozzleNumber n)] ++ octets 4 seq ++ [x.state.code, x.causes.octet] ++ octets 3 x.measured ++
    temperatureField x.gasTemp ++ octets 3 (targetKPa x.target) ++ octets 6 metered ++ octets 4 charge

/-- FILL_ENDED (23). -/
def fillEndedBody (n : Nozzle) (r : Record) : List Octet :=
  [BitVec.ofNat 8 (nozzleNumber n)] ++ octets 4 r.seq ++ [endReasonCode r.endReason, r.flagsOctet] ++
    octets 6 r.metered ++ octets 6 r.billed ++ octets 4 r.charge

/-! ## The record layouts (R161, section 12.5) -/

/-- The octets of a till reference: its length, then its octets. -/
def referenceField (r : Option (List Octet)) : List Octet :=
  BitVec.ofNat 8 (r.getD []).length :: r.getD []

/-- The billing layout, over which the check word is computed (section 12.5). -/
def billingLayout (r : Record) : List Octet :=
  octets 4 r.seq ++ [BitVec.ofNat 8 (nozzleNumber r.nozzle), r.vclass.code, BitVec.ofNat 8 r.customerClass] ++
    octets 4 r.moneyLimit ++ octets 6 (r.massLimit.getD 0) ++ octets 2 r.price ++
    octets 4 r.authoriseTime.toNat ++ octets 4 (r.closeTime.getD 0).toNat ++
    [endReasonCode r.endReason, r.billingFlags] ++
    octets 6 r.metered ++ octets 2 r.ventCorrection ++ octets 6 r.billable ++ octets 6 r.billed ++
    octets 6 r.unbilled ++ octets 4 r.charge ++ referenceField r.reference

/-- The check word of a record (R159). -/
def checkWordOf (r : Record) : BitVec 32 := crc32 (billingLayout r)

/-- READ_RECORD answer, part 0 (R161). The field of an absent flow start time or precool class is a free value
(log entry 10). -/
def recordPart0 (r : Record) : List Octet :=
  octets 4 r.seq ++ [if r.closed then 0x02 else 0x01, BitVec.ofNat 8 (nozzleNumber r.nozzle), r.vclass.code,
    BitVec.ofNat 8 r.customerClass, BitVec.ofNat 8 r.priority] ++
    octets 4 r.moneyLimit ++ octets 6 (r.massLimit.getD 0) ++ octets 2 r.price ++
    octets 4 r.authoriseTime.toNat ++ octets 4 (r.flowStart.getD (Config.absentFlowStart r.seq)).toNat ++
    octets 4 (r.closeTime.getD 0).toNat ++ [match r.band with | some b => BitVec.ofNat 8 b.val | none => 0xFF] ++ octets 2 (r.rampRate.getD 0) ++
    [match r.precoolClass with | some k => k.code | none => Config.absentPrecoolClass r.seq] ++ pressureField r.endPressure ++
    [endReasonCode r.endReason, r.flagsOctet, BitVec.ofNat 8 r.segments.length] ++
    octets 6 r.metered ++ octets 2 r.ventCorrection ++ octets 6 r.billable ++ octets 6 r.billed ++
    octets 6 r.unbilled ++ octets 4 r.charge ++ octets 4 r.checkWord.toNat ++ referenceField r.reference

/-- One segment of a READ_RECORD answer (R161). -/
def segmentField (g : Segment) : List Octet :=
  [bankCode (some g.bank), g.tier.code] ++ pressureField g.openPressure ++ pressureField g.closePressure ++
    octets 6 g.mass

/-- READ_RECORD answer, part 1 (R161). -/
def recordPart1 (r : Record) : List Octet :=
  octets 4 r.seq ++ [BitVec.ofNat 8 r.segments.length] ++ r.segments.flatMap segmentField

end Sys2Proof.Machine
end

