-- ==== Sys2Proof/Machine/Operands.lean ====
section
/-! DEFINITION. The operands of the commands: the values their fields stand for (section 12.1 and the owners' rules),
and the telegram each telegram command is. -/

namespace Sys2Proof.Machine

/-- A received pressure: a value above 120,000 kPa is taken as 120,000 (R33, R75, R94). -/
def clampPressure (v : BitVec 24) : Nat := min v.toNat 120000

/-- A received temperature, clamped to −60.0 °C to +150.0 °C (R33, R81, R94). -/
def clampTemperature (v : BitVec 16) : Int := max (-600) (min 1500 v.toInt)

/-- A received tank temperature: 8000h means not available (R94, section 12.1). -/
def tankTemperature (v : BitVec 16) : Option Int := if v = 0x8000 then none else some (clampTemperature v)

/-- A received ambient value: VALID from −50.0 °C to +70.0 °C, otherwise INVALID (R86). -/
def sensorValue (v : BitVec 16) : Option Int :=
  if -500 ≤ v.toInt ∧ v.toInt ≤ 700 then some v.toInt else none

/-- The vehicle class an octet names; 01h LP, 02h HP (section 12.3). -/
def vehicleClassOf (o : Octet) : Option VehicleClass :=
  if o = 0x01 then some .lp else if o = 0x02 then some .hp else none

/-- The settings group a code names (section 12.2). -/
def groupOf (o : Octet) : Option Group :=
  match o.toNat with
  | 1 => some .banks
  | 2 => some .ramp
  | 3 => some .precool
  | 4 => some .ambient
  | 5 => some .meter
  | 6 => some .tariffAccess
  | 7 => some .links
  | _ => none

/-- The octets of a WRITE_SETTINGS entry. -/
def SettingEntry.field (e : SettingEntry) : List Octet := octets 2 e.ident.toNat ++ octets 4 e.value.toNat

/-- The octets of a BANK_SAMPLE entry. -/
def SampleEntry.field (e : SampleEntry) : List Octet :=
  e.bank :: octets 3 e.pressure.toNat ++ octets 2 e.temperature.toNat

/-- The octets of an optional part octet. -/
def partField : Option Octet → List Octet
  | some o => [o]
  | none => []

/-- The port and the telegram of a telegram command; none for the commands that are no telegram (section 12.2). -/
def telegramOf : Instr → Option (PortId × Telegram)
  | .hello p tag role nozzle => some (p, ⟨0x01, tag, [role, nozzle]⟩)
  | .status p tag part => some (p, ⟨0x02, tag, partField part⟩)
  | .isolateBank p tag bank => some (p, ⟨0x10, tag, [bank]⟩)
  | .restoreBank p tag bank => some (p, ⟨0x11, tag, [bank]⟩)
  | .pauseFills p tag seconds => some (p, ⟨0x12, tag, octets 2 seconds.toNat⟩)
  | .clearCompressorFault p tag => some (p, ⟨0x13, tag, []⟩)
  | .writeSettings p tag group entries rest =>
      some (p, ⟨0x14, tag, group :: entries.flatMap SettingEntry.field ++ rest⟩)
  | .lockGroup p tag group => some (p, ⟨0x15, tag, [group]⟩)
  | .unlockGroup p tag group => some (p, ⟨0x16, tag, [group]⟩)
  | .setMetrologyLock p tag => some (p, ⟨0x17, tag, []⟩)
  | .setClock p tag value => some (p, ⟨0x18, tag, octets 4 value.toNat⟩)
  | .restart p tag => some (p, ⟨0x19, tag, []⟩)
  | .coldStart p tag => some (p, ⟨0x1A, tag, []⟩)
  | .authorise p tag nozzle l m k prio =>
      some (p, ⟨0x20, tag, nozzle :: octets 4 l.toNat ++ octets 6 m.toNat ++ [k, prio]⟩)
  | .cancel p tag nozzle => some (p, ⟨0x21, tag, [nozzle]⟩)
  | .writeTariff p tag prices effective =>
      some (p, ⟨0x22, tag, prices.toList.flatMap (fun v => octets 2 v.toNat) ++ octets 4 effective.toNat⟩)
  | .readRecord p tag seq part => some (p, ⟨0x23, tag, octets 4 seq.toNat ++ partField part⟩)
  | .acknowledge p tag seq => some (p, ⟨0x24, tag, octets 4 seq.toNat⟩)
  | .attachReference p tag seq reference => some (p, ⟨0x25, tag, octets 4 seq.toNat ++ reference⟩)
  | .refreshCheck p tag seq => some (p, ⟨0x26, tag, octets 4 seq.toNat⟩)
  | .verifyCheck p tag seq word => some (p, ⟨0x27, tag, octets 4 seq.toNat ++ octets 4 word.toNat⟩)
  | .bankSample p tag entries rest => some (p, ⟨0x30, tag, entries.flatMap SampleEntry.field ++ rest⟩)
  | .chillerSample p tag supply derate => some (p, ⟨0x31, tag, octets 2 supply.toNat ++ [derate]⟩)
  | .ambientSample p tag a1 a2 a3 =>
      some (p, ⟨0x32, tag, octets 2 a1.toNat ++ octets 2 a2.toNat ++ octets 2 a3.toNat⟩)
  | .compressorSample p tag inlet discharge =>
      some (p, ⟨0x33, tag, octets 3 inlet.toNat ++ octets 3 discharge.toNat⟩)
  | .nozzleConnect p tag vclass dataPresent => some (p, ⟨0x38, tag, [vclass, dataPresent]⟩)
  | .nozzleHang p tag => some (p, ⟨0x39, tag, []⟩)
  | .stopPress p tag => some (p, ⟨0x3A, tag, []⟩)
  | .fieldSample p tag pressure gas tank flags count =>
      some (p, ⟨0x3B, tag, octets 3 pressure.toNat ++ octets 2 gas.toNat ++ octets 2 tank.toNat ++ [flags] ++
        octets 2 count.toNat⟩)
  | .valveConfirm p tag bank generation state => some (p, ⟨0x40, tag, [bank, generation, state]⟩)
  | .runConfirm p tag state => some (p, ⟨0x41, tag, [state]⟩)
  | .flowConfirm p tag generation state => some (p, ⟨0x42, tag, [generation, state]⟩)
  | .ventDone p tag count => some (p, ⟨0x43, tag, octets 2 count.toNat⟩)
  | .receiveGapTimeout _ | .telegramArrival _ _ | .linkTimeout _ | .transmissionEnd _ | .settingsHandOver | .powerUp
  | .resetAssert | .resetRelease | .clockSecond | .valveOpenTimeout _ | .valveCloseTimeout _ | .runStartTimeout
  | .runStopTimeout | .stallWindowExpiry | .backoffExpiry | .ambientHoldExpiry | .connectWaitExpiry _
  | .resourceWaitExpiry _ | .pulseDelayExpiry _ | .pulseWidthExpiry _ | .sensitivePartEnd _ | .settleWindowEnd _
  | .flowOrderTimeout _ | .ventTimeout _ | .progressTimerExpiry _ | .rampStepExpiry _ | .holdPeriodExpiry _
  | .pauseTimerExpiry | .stopThresholdReached _ | .meterFaultReport _ | .pacingTimerExpiry | .octetArrival _ _
  | .coreSupplyLoss _ | .retainedDomainSupplyLoss => none

end Sys2Proof.Machine
end

