-- ==== Sys2Proof/Machine/State.lean ====
section
/-! DEFINITION. The state of the FC-8: the queue of waiting commands, and the controller with all the state the manual
gives its blocks; the reasons a step can stop; the state after reset. -/

namespace Sys2Proof.Machine

/-- The controller: everything the manual gives the FC-8. -/
structure Controller where
  /-- the core supply is present (R26) -/
  corePowered : Bool
  /-- the retained-domain supply is present (R26) -/
  retainedPowered : Bool
  /-- the reset input is held asserted (R29) -/
  resetAsserted : Bool
  /-- the start that a RESTART or COLD_START request has made pending (R27) -/
  pendingStart : Option StartKind
  /-- the port records P0 to P7 (R1) -/
  ports : Vector PortRec 8
  /-- the Settings and Retained Store (R18, R24, R26) -/
  store : Store
  /-- the Storage Allocator (R31, R47, R49) -/
  alloc : Allocator
  /-- the Compressor Scheduler (R65) -/
  sched : Scheduler
  /-- the Thermal Monitor (R80) -/
  thermal : Thermal
  /-- the nozzle contexts 1 to 6 (R93) -/
  contexts : Vector Context 6
  /-- the join counter (R93) -/
  joinCounter : Nat
  /-- the plant pause timer (R130) -/
  pauseTimer : Timer
  /-- the meter state of nozzles 1 to 6 (R132) -/
  meters : Vector Meter 6
  /-- the station totaliser in cg (R132, R141) -/
  stationTotal : Nat
  /-- the nozzle totalisers in cg (R132, R141) -/
  nozzleTotals : Vector Nat 6
  /-- the ACTIVE tariff window: LP prices 0 to 3, then HP prices 0 to 3 (R132) -/
  active : Vector (BitVec 16) 8
  /-- the PENDING tariff window (R132) -/
  pendingTariff : Option PendingTariff
  /-- the Transaction Ring (R147) -/
  ring : Ring
  /-- the MODEL's own field: events of the blocks raised and not yet taken; the hand-overs of a WRITE_SETTINGS wait
  here (R20), empty otherwise (log entry 37) -/
  owed : List Event
  /-- the MODEL's own field: how many free values have been used (log entry 37) -/
  freeCount : Nat
  deriving DecidableEq, Repr

/-- The state: the commands waiting, first in first out, and the controller. -/
structure State where
  /-- the MODEL's own field: the commands that wait to be taken, in the order they were sent (log entry 29) -/
  pending : List Instr
  /-- the FC-8 -/
  ctl : Controller
  deriving DecidableEq, Repr

/-- The reasons a step faults: none. The manual gives every command an effect in every state, so no constructor is
needed, and no step faults (safe: there is nothing to raise; log entry 31). -/
inductive Fault where
  deriving DecidableEq, Repr

/-- The reasons a command is refused. -/
inductive Refusal where
  /-- a command without a meaning in the model, named as spec/opcode_table.json names it; raised by an arm of `exec`
  alone, and by none now; safe, since the machine stops where the hardware goes on -/
  | notModelled (mnemonic : String)
  deriving DecidableEq, Repr

/-- The controller right after a cold start taken at power-up (R26, R30): every block at its cold start values. -/
def coldController : Controller where
  corePowered := true
  retainedPowered := true
  resetAsserted := false
  pendingStart := none
  ports := Vector.ofFn fun p => restPort (serviceOf defaultSettings.links p)
  store := coldStore
  alloc := coldAllocator
  sched := restScheduler
  thermal := restThermal
  contexts := Vector.ofFn fun n => restContext defaultSettings.links.vehicleClass[n]
  joinCounter := 1
  pauseTimer := none
  meters := Vector.replicate 6 restMeter
  stationTotal := 0
  nozzleTotals := Vector.replicate 6 0
  active := Vector.replicate 8 0
  pendingTariff := none
  ring := coldRing
  owed := []
  freeCount := 0

/-- The state right after reset: no command waits, and the controller is as a cold start at power-up leaves it (log
entry 1). -/
def State.reset : State := ⟨[], coldController⟩

end Sys2Proof.Machine
end

