-- ==== Sys2Proof/Machine/Ops.lean ====
section
/-! DEFINITION. The named operations over the controller that every block shares: reading and changing one port, bank,
context, meter or record; what an operation tells other blocks; the Link Interface's placing of answers, orders and
notices (R8, R14 to R16); and the passing of time. -/

namespace Sys2Proof.Machine

/-! ## An operation's effect: the new controller and what is told to other blocks -/

/-- A controller and the events told, in the order told. -/
structure Eff where
  ctl : Controller
  events : List Event

/-- Nothing told. -/
def Eff.of (c : Controller) : Eff := ⟨c, []⟩

/-- A further operation on the controller, its events after those already told. -/
def Eff.andThen (e : Eff) (f : Controller → Eff) : Eff :=
  let r := f e.ctl
  ⟨r.ctl, e.events ++ r.events⟩

/-- A further change that tells nothing. -/
def Eff.change (e : Eff) (f : Controller → Controller) : Eff := ⟨f e.ctl, e.events⟩

/-- Further events told. -/
def Eff.tell (e : Eff) (l : List Event) : Eff := ⟨e.ctl, e.events ++ l⟩

/-! ## Reading and changing parts of the controller -/

/-- One port record. -/
def Controller.port (c : Controller) (p : PortId) : PortRec := c.ports[p]

/-- One bank record. -/
def Controller.bank (c : Controller) (b : BankId) : BankRec := c.alloc.banks[b]

/-- One nozzle context. -/
def Controller.ctx (c : Controller) (n : Nozzle) : Context := c.contexts[n]

/-- One nozzle's meter state. -/
def Controller.meter (c : Controller) (n : Nozzle) : Meter := c.meters[n]

/-- One nozzle's reservation. -/
def Controller.reservation (c : Controller) (n : Nozzle) : Nat := c.alloc.reservations[n]

/-- One nozzle's parked request. -/
def Controller.parkedOf (c : Controller) (n : Nozzle) : Option BankClaim := c.alloc.parked[n]

def Controller.setPort (c : Controller) (p : PortId) (r : PortRec) : Controller :=
  { c with ports := c.ports.set p r }

def Controller.setBank (c : Controller) (b : BankId) (r : BankRec) : Controller :=
  { c with alloc := { c.alloc with banks := c.alloc.banks.set b r } }

def Controller.setCtx (c : Controller) (n : Nozzle) (x : Context) : Controller :=
  { c with contexts := c.contexts.set n x }

def Controller.setMeter (c : Controller) (n : Nozzle) (m : Meter) : Controller :=
  { c with meters := c.meters.set n m }

def Controller.setReservation (c : Controller) (n : Nozzle) (v : Nat) : Controller :=
  { c with alloc := { c.alloc with reservations := c.alloc.reservations.set n v } }

def Controller.setParked (c : Controller) (n : Nozzle) (k : Option BankClaim) : Controller :=
  { c with alloc := { c.alloc with parked := c.alloc.parked.set n k } }

/-- Change one nozzle context. -/
def Controller.updCtx (c : Controller) (n : Nozzle) (f : Context → Context) : Controller := c.setCtx n (f (c.ctx n))

/-- Change one bank record. -/
def Controller.updBank (c : Controller) (b : BankId) (f : BankRec → BankRec) : Controller := c.setBank b (f (c.bank b))

/-- Change one nozzle's meter state. -/
def Controller.updMeter (c : Controller) (n : Nozzle) (f : Meter → Meter) : Controller := c.setMeter n (f (c.meter n))

/-- Change the record with a sequence number (R148). -/
def Controller.updRecord (c : Controller) (seq : Nat) (f : Record → Record) : Controller :=
  { c with ring := { c.ring with records := c.ring.records.map fun r => if r.seq = seq then f r else r } }

/-- The record a context holds, by its authorisation's sequence number. -/
def Controller.recordOf (c : Controller) (n : Nozzle) : Option Record :=
  match (c.ctx n).auth with
  | some a => c.ring.records.find? fun r => r.seq = a.seq
  | none => none

/-- Change the record a context holds. -/
def Controller.updRecordOf (c : Controller) (n : Nozzle) (f : Record → Record) : Controller :=
  match (c.ctx n).auth with
  | some a => c.updRecord a.seq f
  | none => c

/-- The last element of a list changed. -/
def modifyLast {α : Type} (f : α → α) : List α → List α
  | [] => []
  | [x] => [f x]
  | x :: y :: l => x :: modifyLast f (y :: l)

/-- Whether a bank is configured: its number is within the bank count in force (R31). -/
def Controller.configured (c : Controller) (b : BankId) : Bool := b.val < c.alloc.bankCount

/-- The configured bank an octet names, none for 0 and above the bank count in force. -/
def Controller.bankNamed (c : Controller) (o : Octet) : Option BankId :=
  match bankOfNumber o.toNat with
  | some b => if c.configured b then some b else none
  | none => none

/-- The order confirmation timeout in force, in milliseconds (R37, R70, R105). -/
def Controller.orderTime (c : Controller) : Nat := c.store.settings.ramp.orderTimeout * 100

/-- The order of the tiers, LOW below MID below HIGH. -/
def Tier.rank : Tier → Nat
  | .low => 0 | .mid => 1 | .high => 2

/-- The value of a tier. -/
def PerTier.of (v : PerTier) : Tier → Nat
  | .low => v.low | .mid => v.mid | .high => v.high

/-- The value of a vehicle class. -/
def PerClass.of (v : PerClass) : VehicleClass → Nat
  | .lp => v.lp | .hp => v.hp

/-- The tiers of a vehicle class (R55): LOW and MID for the LP class, all for the HP class. -/
def tierAllowed : VehicleClass → Tier → Bool
  | .lp, .high => false
  | _, _ => true

/-- The class maximum pressure in kPa. -/
def classMaximum : VehicleClass → Nat
  | .lp => 43750 | .hp => 87500

/-- The order of the precool classes, coldest lowest (R82). -/
def PrecoolClass.warmth : PrecoolClass → Nat
  | .t40 => 0 | .t30 => 1 | .t20 => 2 | .noClass => 3

/-! ## The outbound side of a port (R14, R15) -/

/-- A telegram entered into an outbound queue: behind every telegram of its priority or a higher one. -/
def enqueue (t : Telegram) : List Telegram → List Telegram
  | [] => [t]
  | u :: us => if u.priority < t.priority then t :: u :: us else u :: enqueue t us

/-- Whether an outbound place is free; a place kept for an answer is not (R10, R15). -/
def PortRec.hasPlace (r : PortRec) : Bool := r.outbound.length + (if r.answerPlace then 1 else 0) < 12

/-- Whether a telegram is a notice. -/
def Telegram.isNotice (t : Telegram) : Bool := t.priority == 0

/-- R15, Answer: the answer enters if a place is free, the place kept for it among them. -/
def PortRec.placeAnswer (r : PortRec) (t : Telegram) : PortRec :=
  if r.outbound.length < 12 then { r with outbound := enqueue t r.outbound, answerPlace := false }
  else { r with answerPlace := false }

/-- R9, R15: a BUSY answer takes a free place if there is one. -/
def PortRec.placeBusy (r : PortRec) (t : Telegram) : PortRec :=
  if r.hasPlace then { r with outbound := enqueue t r.outbound } else r

/-- R15, Order: a free place, or the newest notice's place, or the order hold. -/
def PortRec.placeOrder (r : PortRec) (t : Telegram) : PortRec :=
  if r.orderHold ≠ [] then { r with orderHold := r.orderHold ++ [t] }
  else if r.hasPlace then { r with outbound := enqueue t r.outbound }
  else match r.outbound.getLast? with
    | some u =>
      if u.isNotice then { r with outbound := enqueue t r.outbound.dropLast }
      else { r with orderHold := [t] }
    | none => { r with orderHold := [t] }

/-- The queue without its oldest FILL_PROGRESS. -/
def dropOldestProgress : List Telegram → List Telegram
  | [] => []
  | u :: us => if u.kind = 0x61 then us else u :: dropOldestProgress us

/-- R15, Notice: a free place while no order is held; a FILL_PROGRESS else takes the oldest one's place; otherwise it
is discarded. The flag says whether the notice was placed. -/
def PortRec.placeNotice (r : PortRec) (t : Telegram) : PortRec × Bool :=
  if r.hasPlace && r.orderHold.isEmpty then ({ r with outbound := enqueue t r.outbound }, true)
  else if t.kind = 0x61 ∧ r.outbound.any (fun u => u.kind = 0x61) then
    ({ r with outbound := enqueue t (dropOldestProgress r.outbound) }, true)
  else (r, false)

/-- R14: with nothing being transmitted, the head of the outbound queue begins transmission, and the oldest held order
takes the place freed (R15). -/
def PortRec.pump (r : PortRec) : PortRec :=
  match r.line, r.outbound with
  | none, t :: q =>
    match r.orderHold with
    | o :: held => { r with line := some t, outbound := enqueue o q, orderHold := held }
    | [] => { r with line := some t, outbound := q }
  | _, _ => r

/-- Every idle line takes its head (R14), at the end of a step (log entry 16). -/
def Controller.settleLines (c : Controller) : Controller :=
  { c with ports := Vector.ofFn fun p => c.ports[p].pump }

/-- The answer telegram of a request: kind plus 80h, the request's tag, result code and body (section 12.1). -/
def answerTo (t : Telegram) (result : Result) (body : List Octet) : Telegram :=
  ⟨t.kind + 0x80, t.tag, result.code :: body⟩

/-- An order is handed to the Link Interface (R16): it takes the port's tag and is placed under R15, or discarded at a
DOWN port (R8). The tag is returned. -/
def Controller.handOrder (c : Controller) (p : PortId) (kind : Octet) (body : List Octet) : Controller × Octet :=
  let r := c.port p
  let numbered := { r with tagCounter := r.tagCounter + 1 }
  match r.link with
  | .up => (c.setPort p (numbered.placeOrder ⟨kind, r.tagCounter, body⟩), r.tagCounter)
  | .down => (c.setPort p numbered, r.tagCounter)

/-- A notice is handed to the Link Interface: placed under R15, or discarded at a DOWN port (R8). The flag says whether
it was placed. -/
def Controller.handNotice (c : Controller) (p : PortId) (kind : Octet) (body : List Octet) : Controller × Bool :=
  let r := c.port p
  match r.link with
  | .up =>
    let placed := r.placeNotice ⟨kind, 0, body⟩
    (c.setPort p placed.1, placed.2)
  | .down => (c, false)

/-- A notice whose fate its owner does not ask for. -/
def Controller.notice (c : Controller) (p : PortId) (kind : Octet) (body : List Octet) : Controller :=
  (c.handNotice p kind body).1

/-- The plant port P0. -/
def plantPort : PortId := 0

/-- The till port P1. -/
def tillPort : PortId := 1

/-! ## Running and the passing of time -/

/-- Whether the controller runs: core supply present and reset input not asserted (R27, R29). -/
def Controller.running (c : Controller) : Bool := c.corePowered && !c.resetAsserted

/-- Every timer of the controller changed by `f`, a running timer's milliseconds given to it. -/
def Controller.mapTimers (c : Controller) (f : Nat → Option Nat) : Controller :=
  { c with
    ports := Vector.ofFn fun p =>
      { c.ports[p] with gapTimer := c.ports[p].gapTimer.bind f, linkTimer := c.ports[p].linkTimer.bind f }
    alloc := { c.alloc with
      banks := Vector.ofFn fun b =>
        { c.alloc.banks[b] with order := c.alloc.banks[b].order.map fun o => { o with timer := o.timer.bind f } } }
    sched := { c.sched with
      order := c.sched.order.map fun o => { o with timer := o.timer.bind f }
      stallWindow := c.sched.stallWindow.bind fun w => (f w.left).map fun ms => { w with left := ms }
      backoff := c.sched.backoff.bind f }
    thermal := { c.thermal with holdTimer := c.thermal.holdTimer.bind f }
    contexts := Vector.ofFn fun n =>
      let x := c.contexts[n]
      { x with
        flowOrder := x.flowOrder.map fun o => { o with timer := o.timer.bind f }
        ventOrder := x.ventOrder.map fun o => { o with timer := o.timer.bind f }
        connectWait := x.connectWait.bind f
        resourceWait := x.resourceWait.bind f
        leakTimer := x.leakTimer.bind f
        sensitive := match x.sensitive with
          | .left ms => match f ms with | some k => .left k | none => .over
          | q => q
        progressTimer := x.progressTimer.bind f
        rampTimer := x.rampTimer.bind f
        holdTimer := if x.holdTimer.running then
            match f x.holdTimer.left with | some k => ⟨true, k⟩ | none => restHold
          else x.holdTimer }
    pauseTimer := c.pauseTimer.bind f
    ring := { c.ring with pacing := c.ring.pacing.bind f } }

/-- 100 ms pass: every running timer loses 100 ms, down to 0 (log entry 3). -/
def Controller.tick (c : Controller) : Controller := c.mapTimers fun ms => some (ms - 100)

/-- Every timer stops (R29). -/
def Controller.haltTimers (c : Controller) : Controller := c.mapTimers fun _ => none

end Sys2Proof.Machine
end

