-- ==== Sys2Proof/Machine/Banks.lean ====
section
/-! DEFINITION. Chapter 3: the bank record, the valve protocol, isolation and the loss of the plant port, as operations
of the Storage Allocator. -/

namespace Sys2Proof.Machine

/-- The block that holds a bank is told that its valve is open (R39). -/
def toldValveOpen (h : Holder) (b : BankId) : Event :=
  match h with
  | .nozzle n => .valveOpened n b
  | .compressor => .compressorValveOpen

/-- The block that holds a bank is told that its valve did not open (R40). -/
def toldValveFailed (h : Holder) (b : BankId) : Event :=
  match h with
  | .nozzle n => .valveFailed n b
  | .compressor => .compressorValveFailed b

/-- A former holder is told that its release is complete, with the bank's pressure (R42, R43). -/
def toldReleased (h : Option Holder) (b : BankId) (pressure : Option Nat) : List Event :=
  match h with
  | some (.nozzle n) => [.bankReleased n b pressure]
  | some .compressor => [.compressorReleased b]
  | none => []

/-- The limit pressure of a BANK_VALVE order: the tier maximum for an OPEN to the compressor, else 0 (R37). -/
def Controller.limitPressure (c : Controller) (b : BankId) (route : Holder) (action : Valve) : Nat :=
  match route, action with
  | .compressor, .opened => c.store.settings.banks.tierMaximum.of (c.bank b).tier
  | _, _ => 0

/-- R37: a BANK_VALVE order is handed for port P0 and becomes the bank's valve order in flight. -/
def Controller.handValve (c : Controller) (b : BankId) (route : Holder) (action : Valve) : Controller :=
  let generation := (c.bank b).generation
  let sent := c.handOrder plantPort 0x50 (bankValveBody b route action generation (c.limitPressure b route action))
  sent.1.updBank b fun r => { r with order := some ⟨action, sent.2, route, generation, some c.orderTime⟩ }

/-- R36: an IDLE bank is granted to a holder: state, holder, generation, OPEN order. -/
def Controller.grantBank (c : Controller) (b : BankId) (h : Holder) : Controller :=
  (c.updBank b fun r => { r with
    holder := some h
    state := match h with | .nozzle _ => .drawing | .compressor => .refilling
    generation := r.generation + 1 }).handValve b h .opened

/-- R36: a bank is granted to a nozzle, and the Sequencer is told. -/
def Controller.grantBankToNozzle (c : Controller) (b : BankId) (n : Nozzle) : Eff :=
  let g := c.grantBank b (.nozzle n)
  ⟨g, [.bankGranted n ⟨b, (g.bank b).tier, (g.bank b).generation⟩ (g.bank b).pressure]⟩

/-- R33: one entry of a BANK_SAMPLE, stored as one sample of its bank. -/
def Controller.takeBankSample (c : Controller) (b : BankId) (pressure : Nat) (temperature : Int) : Eff :=
  let stored := c.updBank b fun r => { r with pressure := some pressure, temperature := some temperature }
  ⟨stored, (if (c.bank b).state = .idle then [Event.grantScan] else []) ++ [.bankSampled b]⟩

/-- The five tests of R38: whether a VALVE_CONFIRM answers the bank's order in flight. -/
def Controller.valveMatches (c : Controller) (b : BankId) (tag generation state : Octet) : Bool :=
  match (c.bank b).order with
  | some o => o.tag = tag && (c.bank b).generation = generation && o.action.code = state
  | none => false

/-- R39: a matching OPEN confirmation. -/
def Controller.openConfirmed (c : Controller) (b : BankId) (route : Holder) : Eff :=
  if (c.bank b).releasePending then
    .of ((c.updBank b fun r => { r with releasePending := false, order := none }).handValve b route .closed)
  else
    ⟨c.updBank b fun r => { r with order := none },
      match (c.bank b).holder with | some h => [toldValveOpen h b] | none => []⟩

/-- R40: the expiry of an OPEN order's confirmation timer. -/
def Controller.openTimedOut (c : Controller) (b : BankId) (route : Holder) : Eff :=
  let told := match (c.bank b).releasePending, (c.bank b).holder with
    | false, some h => [toldValveFailed h b]
    | _, _ => []
  ⟨(c.updBank b fun r => { r with releasePending := false, order := none }).handValve b route .closed, told⟩

/-- R41: a holder's block asks for the release of a bank. -/
def Controller.releaseBank (c : Controller) (b : BankId) (who : Holder) : Controller :=
  let r := c.bank b
  if r.holder ≠ some who then c
  else match r.order with
    | some o =>
      if o.action = .opened ∧ r.releasePending = false then c.updBank b fun r => { r with releasePending := true }
      else c
    | none => if r.releasePending then c else c.handValve b who .closed

/-- R42: a matching CLOSE confirmation completes a release. A nozzle that held the bank is told before the grant scan,
the compressor after it (log entry 11). -/
def Controller.closeConfirmed (c : Controller) (b : BankId) : Eff :=
  let r := c.bank b
  let told := toldReleased r.holder b r.pressure
  let freed := c.updBank b fun r => { r with
    holder := none, generation := r.generation + 1, order := none, nextHolder := none, state := .idle }
  match r.nextHolder with
  | some k =>
    let granted := freed.grantBankToNozzle b k.nozzle
    ⟨granted.ctl, told ++ granted.events⟩
  | none =>
    match r.holder with
    | some .compressor => ⟨freed, .grantScan :: told⟩
    | _ => ⟨freed, told ++ [.grantScan]⟩

/-- A next holder that loses its bank asks again, with the values kept (R43, R44, R58). -/
def claimAgain (k : Option BankClaim) : List Event :=
  match k with
  | some k => [.bankRequest k]
  | none => []

/-- A bank taken out of use: no holder, no order, ISOLATED; the generation rises if a holder is removed (R35). -/
def BankRec.isolate (r : BankRec) : BankRec :=
  { r with
    state := .isolated, order := none, releasePending := false, nextHolder := none, holder := none
    generation := if r.holder.isSome then r.generation + 1 else r.generation }

/-- R43: the expiry of a CLOSE order's confirmation timer auto-isolates the bank; the Scheduler is told, and runs its
start attempt, before a next holder's claim is taken again (log entry 41). -/
def Controller.closeTimedOut (c : Controller) (b : BankId) (route : Holder) : Eff :=
  let r := c.bank b
  let isolated := c.updBank b BankRec.isolate
  let alerted := isolated.notice plantPort 0x60
    (autoIsolatedBody b (isolated.bank b).generation route r.pressure r.temperature)
  ⟨alerted, toldReleased r.holder b r.pressure ++ [.bankIsolated b] ++ claimAgain r.nextHolder⟩

/-- R44: the plant isolates a bank; the Scheduler is told, and runs its start attempt, before a next holder's claim is
taken again (log entry 41). -/
def Controller.isolateBank (c : Controller) (b : BankId) : Eff :=
  let r := c.bank b
  if r.state = .isolated then .of c
  else
    let told := match r.holder with
      | some (.nozzle n) => [Event.bankLost n b r.pressure]
      | _ => []
    ⟨c.updBank b BankRec.isolate, told ++ [.bankIsolated b] ++ claimAgain r.nextHolder⟩

/-- R45: an ISOLATED bank returns to IDLE, and a grant scan is run. -/
def Controller.restoreBank (c : Controller) (b : BankId) : Eff :=
  ⟨c.updBank b fun r => { r with state := .idle }, [.grantScan]⟩

/-- What the loss of the plant port does to one bank record (R46). -/
def BankRec.dropAtPlantLoss (r : BankRec) : BankRec :=
  { r with
    state := if r.state = .isolated then .isolated else .idle
    holder := none
    generation := if r.holder.isSome then r.generation + 1 else r.generation
    order := none, releasePending := false, nextHolder := none, pressure := none, temperature := none }

/-- R46 and R63: the loss of port P0 reaches the Allocator. -/
def Allocator.dropAtPlantLoss (a : Allocator) : Allocator :=
  { a with
    banks := Vector.ofFn fun b => if b.val < a.bankCount then a.banks[b].dropAtPlantLoss else a.banks[b]
    reservations := Vector.replicate 6 0
    compressorReservation := 0
    compressorHeld := false
    compressorClaim := none
    precoolList := []
    bankList := []
    parked := Vector.replicate 6 none }

end Sys2Proof.Machine
end

