-- ==== Sys2Proof/Machine/Claims.lean ====
section
/-! DEFINITION. Chapter 4: the precool account, the waiting lists, grants, preemption and shedding, as operations of the
Storage Allocator. -/

namespace Sys2Proof.Machine

/-! ## The account and the lists -/

/-- The sum of all seven reservations (R47, R48). -/
def Allocator.sum (a : Allocator) : Nat := a.reservations.toList.sum + a.compressorReservation

/-- The free capacity (R48). -/
def Allocator.free (a : Allocator) : Nat := a.capacity - a.sum

/-- Whether one entry stands before another on a waiting list (R49): higher priority, then lower join number. -/
def goesBefore (prio₁ join₁ prio₂ join₂ : Nat) : Bool := prio₂ < prio₁ || (prio₁ == prio₂ && join₁ < join₂)

/-- An entry placed on the precool list (R49). -/
def placePrecool (k : PrecoolClaim) : List PrecoolClaim → List PrecoolClaim
  | [] => [k]
  | u :: us => if goesBefore k.priority k.join u.priority u.join then k :: u :: us else u :: placePrecool k us

/-- An entry placed on the bank list (R49). -/
def placeBankClaim (k : BankClaim) : List BankClaim → List BankClaim
  | [] => [k]
  | u :: us => if goesBefore k.priority k.join u.priority u.join then k :: u :: us else u :: placeBankClaim k us

/-- Whether a nozzle is the next holder of a bank. -/
def isNextHolder (n : Nozzle) (r : BankRec) : Bool :=
  match r.nextHolder with
  | some k => k.nozzle == n
  | none => false

/-- Whether a nozzle is the next holder of any bank. -/
def Allocator.nextHolderAnywhere (a : Allocator) (n : Nozzle) : Bool := a.banks.toList.any (isNextHolder n)

/-- Whether a nozzle holds any bank. -/
def Allocator.holdsBank (a : Allocator) (n : Nozzle) : Bool := a.banks.toList.any fun r => r.holder == some (.nozzle n)

/-- The claim kept with a nozzle's next-holder place, if it has one (R57). -/
def Allocator.nextClaim (a : Allocator) (n : Nozzle) : Option BankClaim :=
  (a.banks.toList.find? (isNextHolder n)).bind fun r => r.nextHolder

/-- Every next-holder place of a nozzle cleared. -/
def Allocator.clearNextHolder (a : Allocator) (n : Nozzle) : Allocator :=
  { a with banks := Vector.ofFn fun b =>
      if isNextHolder n a.banks[b] then { a.banks[b] with nextHolder := none } else a.banks[b] }

/-! ## Precool claims -/

/-- R50: a precool request. -/
def Controller.precoolRequest (c : Controller) (k : PrecoolClaim) : Eff :=
  if c.alloc.precoolList.any (fun u => u.nozzle == k.nozzle) || 0 < c.reservation k.nozzle then .of c
  else ⟨{ c with alloc := { c.alloc with precoolList := placePrecool k c.alloc.precoolList } }, [.grantPass false]⟩

/-- Whether a nozzle stands anywhere in the account: a reservation, a list entry, a parked request, a next holder. -/
def Allocator.knows (a : Allocator) (n : Nozzle) : Bool :=
  0 < a.reservations[n] || a.precoolList.any (fun u => u.nozzle == n) || a.bankList.any (fun u => u.nozzle == n) ||
    a.parked[n].isSome || a.nextHolderAnywhere n

/-- R52: a precool release takes a nozzle out of the account; a release that finds nothing changes nothing, and runs no
pass (log entry 24). -/
def Controller.precoolRelease (c : Controller) (n : Nozzle) : Eff :=
  if c.alloc.knows n then
    let a := c.alloc.clearNextHolder n
    ⟨{ c with alloc := { a with
        reservations := a.reservations.set n 0
        precoolList := a.precoolList.filter fun u => u.nozzle != n
        bankList := a.bankList.filter fun u => u.nozzle != n
        parked := a.parked.set n none } }, [.grantPass false]⟩
  else .of c

/-- R51 steps 1 and 2 for a head that fits; none when the pass ends. -/
def Controller.grantHead (c : Controller) (placed : Bool) : Option Eff :=
  match c.alloc.precoolList with
  | k :: rest =>
    if k.amount ≤ c.alloc.free then
      some ⟨{ c with alloc := { c.alloc with
          precoolList := rest, reservations := c.alloc.reservations.set k.nozzle k.amount } },
        [.precoolGranted k.nozzle, .placeParked k.nozzle placed]⟩
    else none
  | [] => none

/-- R51 step 3: the parked request of the nozzle just granted goes onto the bank list; then the pass goes on. -/
def Controller.placeParked (c : Controller) (n : Nozzle) (placed : Bool) : Eff :=
  match c.parkedOf n with
  | some k =>
    ⟨{ c with alloc := { c.alloc with
        bankList := placeBankClaim k c.alloc.bankList, parked := c.alloc.parked.set n none } }, [.grantPass true]⟩
  | none => ⟨c, [.grantPass placed]⟩

/-- The Allocator's answers to a compressor claim (R53). -/
inductive ClaimAnswer where
  | ignored | bankTaken | waiting | granted
  deriving DecidableEq, Repr

/-- R53: a compressor claim naming a bank is tested and, where it can be, granted. -/
def Controller.judgeClaim (c : Controller) (b : BankId) : Controller × ClaimAnswer :=
  if c.alloc.compressorHeld then (c, .ignored)
  else if (c.bank b).state ≠ .idle ∨ c.configured b = false then
    ({ c with alloc := { c.alloc with compressorClaim := none } }, .bankTaken)
  else if c.alloc.precoolList ≠ [] ∨ c.alloc.free < c.store.settings.precool.compressorLoad then
    ({ c with alloc := { c.alloc with compressorClaim := some b } }, .waiting)
  else
    (({ c with alloc := { c.alloc with
        compressorReservation := c.store.settings.precool.compressorLoad
        compressorHeld := true
        compressorClaim := none } }).grantBank b .compressor, .granted)

/-- R53: a compressor reservation release; one that finds nothing held changes nothing. -/
def Controller.releaseCompressor (c : Controller) : Eff :=
  if c.alloc.compressorHeld then
    ⟨{ c with alloc := { c.alloc with compressorReservation := 0, compressorHeld := false } }, [.grantPass false]⟩
  else .of c

/-! ## Bank claims -/

/-- R55: whether a bank record qualifies for an entry. -/
def qualifies (r : BankRec) (k : BankClaim) : Bool :=
  tierAllowed k.vclass r.tier && k.floor.rank ≤ r.tier.rank &&
    (match r.pressure with | some p => k.required ≤ p | none => false)

/-- R54 step 2: whether a bank, in any state, could serve an entry: as R55, but an UNKNOWN pressure passes. -/
def couldServe (r : BankRec) (k : BankClaim) : Bool :=
  tierAllowed k.vclass r.tier && k.floor.rank ≤ r.tier.rank &&
    (match r.pressure with | some p => k.required ≤ p | none => true)

/-- All banks, by number. -/
def allBanks : List BankId := List.finRange 12

/-- All nozzles, by number. -/
def allNozzles : List Nozzle := List.finRange 6

/-- R56: whether the first bank is the better choice for an entry: lower tier, then higher pressure, then lower bank
number. -/
def betterBank (c : Controller) (x y : BankId) : Bool :=
  let key (b : BankId) := ((c.bank b).tier.rank, (c.bank b).pressure.getD 0)
  (key x).1 < (key y).1 || ((key x).1 == (key y).1 &&
    ((key y).2 < (key x).2 || ((key x).2 == (key y).2 && x.val < y.val)))

/-- R56: the bank a scan chooses for an entry: the best of the configured IDLE banks that qualify. -/
def Controller.chooseBank (c : Controller) (k : BankClaim) : Option BankId :=
  (allBanks.filter fun b => c.configured b && (c.bank b).state == .idle && qualifies (c.bank b) k).foldl
    (fun best b => match best with | some x => if betterBank c b x then some b else some x | none => some b) none

/-- R56: the entries of the bank list are served in their order, each with the banks that remain. -/
def Controller.scanEntries (c : Controller) : List BankClaim → Eff
  | [] => .of c
  | k :: rest =>
    match c.chooseBank k with
    | some b =>
      let granted := ({ c with alloc := { c.alloc with
        bankList := c.alloc.bankList.filter fun u => u.nozzle != k.nozzle } }).grantBankToNozzle b k.nozzle
      granted.andThen fun d => d.scanEntries rest
    | none => c.scanEntries rest

/-- R56: a grant scan. -/
def Controller.grantScan (c : Controller) : Eff := c.scanEntries c.alloc.bankList

/-- R54: a bank request, with its required pressure. Step 2 takes in an ISOLATED bank, also where R58 takes a claim again
at the isolation of its own bank (log entry 47). -/
def Controller.bankRequest (c : Controller) (k : BankClaim) : Eff :=
  if c.alloc.bankList.any (fun u => u.nozzle == k.nozzle) || (c.parkedOf k.nozzle).isSome ||
      c.alloc.nextHolderAnywhere k.nozzle || c.alloc.holdsBank k.nozzle then .of c
  else if !(allBanks.any fun b => c.configured b && couldServe (c.bank b) k) then ⟨c, [.storageLow k.nozzle]⟩
  else if c.reservation k.nozzle = 0 then .of (c.setParked k.nozzle (some k))
  else
    ⟨{ c with alloc := { c.alloc with bankList := placeBankClaim k c.alloc.bankList } },
      [.grantScan, .judgePreemption k.nozzle]⟩

/-- R57 test 4: no CLOSE in flight, no release pending, no next holder. -/
def BankRec.notReleasing (r : BankRec) : Bool :=
  (match r.order with | some o => o.action == .opened | none => true) && !r.releasePending && r.nextHolder.isNone

/-- R57: preemption is judged, and taken if its four tests hold, for a nozzle's request still on the bank list. -/
def Controller.judgePreemption (c : Controller) (n : Nozzle) : Eff :=
  let s := c.store.settings.banks
  match c.alloc.bankList.find? fun u => u.nozzle == n with
  | none => .of c
  | some k =>
    if !s.preemptEnable || k.priority < s.preemptMinimum then .of c
    else match allBanks.find? fun b =>
        c.configured b && (c.bank b).state == .refilling && qualifies (c.bank b) k && (c.bank b).notReleasing with
      | none => .of c
      | some b =>
        let taken := ({ c with alloc := { c.alloc with
          bankList := c.alloc.bankList.filter fun u => u.nozzle != n } }).updBank b fun r =>
            { r with nextHolder := some k }
        let closing := match (c.bank b).order with
          | none => taken.handValve b .compressor .closed
          | some _ => taken.updBank b fun r => { r with releasePending := true }
        ⟨closing, [.refillPreempted]⟩

/-! ## Shedding -/

/-- R59: whether a nozzle with a reservation is in rank 2; the other holders among the nozzles are in rank 3. -/
def Allocator.inRank2 (a : Allocator) (n : Nozzle) : Bool :=
  a.bankList.any (fun u => u.nozzle == n) || a.nextHolderAnywhere n || !a.holdsBank n ||
    a.banks.toList.any fun r => r.holder == some (.nozzle n) &&
      (r.releasePending || (match r.order with | some o => o.action == .closed | none => false))

/-- A nozzle placed in a list of nozzles, highest join number first. -/
def placeByJoin (c : Controller) (n : Nozzle) : List Nozzle → List Nozzle
  | [] => [n]
  | u :: us => if (c.ctx u).join.getD 0 < (c.ctx n).join.getD 0 then n :: u :: us else u :: placeByJoin c n us

/-- R59: the nozzles that hold a reservation, in the order they are shed. -/
def Controller.shedOrder (c : Controller) : List Nozzle :=
  let holders := allNozzles.filter fun n => 0 < c.reservation n
  let sorted := holders.foldr (placeByJoin c) []
  sorted.filter (fun n => c.alloc.inRank2 n) ++ sorted.filter (fun n => !c.alloc.inRank2 n)

/-- The precool list entry a shed nozzle takes: its own priority and join number, and the amount it has lost (R61). -/
def Controller.shedClaim (c : Controller) (n : Nozzle) : PrecoolClaim :=
  let x := c.ctx n
  ⟨n, (match x.auth with | some a => a.priority | none => 0), x.join.getD 0, c.reservation n⟩

/-- R61: a nozzle loses its reservation. One of rank 2 has its bank list entry or next-holder claim parked; either
rank joins the precool list, but for a fill in LEAK_CHECK. -/
def Controller.shedNozzle (c : Controller) (n : Nozzle) : Controller :=
  let kept := match c.alloc.bankList.find? fun u => u.nozzle == n with
    | some k => some k
    | none => c.alloc.nextClaim n
  let a := c.alloc.clearNextHolder n
  { c with alloc := { a with
      reservations := a.reservations.set n 0
      bankList := a.bankList.filter fun u => u.nozzle != n
      parked := match kept with | some k => a.parked.set n (some k) | none => a.parked
      precoolList := if (c.ctx n).state = .leakCheck then a.precoolList
        else placePrecool (c.shedClaim n) a.precoolList } }

/-- R60: holders are shed in order until the sum fits the capacity in force. -/
def Controller.shedNozzles (c : Controller) : List Nozzle → Eff
  | [] => .of c
  | n :: rest =>
    if c.alloc.sum ≤ c.alloc.capacity then .of c
    else (⟨c.shedNozzle n, [.nozzleShed n]⟩ : Eff).andThen fun d => d.shedNozzles rest

/-- R60, R61: shedding, the compressor first. -/
def Controller.shed (c : Controller) : Eff :=
  if c.alloc.sum ≤ c.alloc.capacity then .of c
  else
    let order := c.shedOrder
    let first : Eff := if 0 < c.alloc.compressorReservation then
        ⟨{ c with alloc := { c.alloc with compressorReservation := 0, compressorHeld := false } }, [.refillShed]⟩
      else .of c
    first.andThen fun d => d.shedNozzles order

/-- R48: the capacity in force is recomputed, with shedding, and a grant pass is run. -/
def Controller.recomputeCapacity (c : Controller) : Eff :=
  let fresh := { c with alloc := { c.alloc with capacity := c.store.settings.precool.nominal - c.alloc.derate } }
  fresh.shed.tell [.grantPass false]

/-- R48, R81: the Thermal Monitor gives a derate. -/
def Controller.takeDerate (c : Controller) (d : Nat) : Eff :=
  ({ c with alloc := { c.alloc with derate := d } }).recomputeCapacity

end Sys2Proof.Machine
end

