-- ==== Sys2Proof/Machine/Compression.lean ====
section
/-! DEFINITION. Chapter 5: the refill queue, the compressor states, run orders, stalls, starvation and faults, as
operations of the Compressor Scheduler. -/

namespace Sys2Proof.Machine

/-- The inlet minimum in kPa (R65). -/
def inletMinimum : Nat := 2000

/-- The stall window in milliseconds (R65). -/
def stallWindowTime : Nat := 30000

/-- The qualifying rise in kPa (R65). -/
def qualifyingRise : Nat := 500

/-- The stall limit (R65). -/
def stallLimit : Nat := 8

/-- The wait of the backoff timer after the n-th stall, in milliseconds (R76). -/
def backoffTime (n : Nat) : Nat := 5000 * 2 ^ min n 4

/-- A change of the Scheduler's state. -/
def Controller.updSched (c : Controller) (f : Scheduler → Scheduler) : Controller := { c with sched := f c.sched }

/-- Whether a known inlet pressure lies below the minimum (R68, R77). -/
def Scheduler.inletLow (s : Scheduler) : Bool :=
  match s.inlet with | some p => p < inletMinimum | none => false

/-! ## Run orders (R70) -/

/-- R70: a COMPRESSOR_RUN order is handed and becomes the run order in flight. -/
def Controller.handRun (c : Controller) (action : RunAction) (b : Option BankId) : Controller :=
  let sent := c.handOrder plantPort 0x51 (compressorRunBody action b)
  sent.1.updSched fun s => { s with order := some ⟨action, b, sent.2, some c.orderTime⟩ }

/-- R70: a STOP is needed: handed at once, or pending behind a START, or already under way. -/
def Controller.callStop (c : Controller) (b : Option BankId) : Controller :=
  match c.sched.order with
  | none => c.handRun .stop b
  | some o =>
    match o.action with
    | .start => c.updSched fun s => { s with stopPending := true }
    | .stop => c

/-! ## Claims and start attempts (R68, R69) -/

/-- R69: the Scheduler acts on a GRANTED answer. -/
def Controller.claimGranted (c : Controller) (b : BankId) : Controller :=
  (c.updSched fun s => { s with
    refillBank := some b, heldBank := some ⟨b, false⟩, claimPending := none, runConfirmed := false
    valveOpen := false, state := .starting }).handRun .start (some b)

/-- R69: the Scheduler acts on the Allocator's answer to a claim; the pass that follows every claim is R51's. -/
def Controller.actOnAnswer (c : Controller) (b : BankId) (answer : ClaimAnswer) : Eff :=
  match answer with
  | .granted => .of (c.claimGranted b)
  | .waiting => .of (c.updSched fun s => { s with claimPending := some b, state := .waitCooling })
  | .bankTaken =>
    ⟨c.updSched fun s => { s with refillBank := none, claimPending := none, state := .stopped }, [.startAttempt]⟩
  | .ignored => .of c

/-- R68: a start attempt; an event that finds its conditions unmet runs none. -/
def Controller.startAttempt (c : Controller) : Eff :=
  let s := c.sched
  if s.state ≠ .stopped ∨ s.heldBank.isSome ∨ s.order.isSome ∨ s.stopPending = true then .of c
  else if s.inletLow then .of (c.updSched fun s => { s with state := .starved })
  else match s.queue.find? fun b => c.configured b && (c.bank b).state == .idle with
    | none => .of c
    | some b =>
      let judged := (c.updSched fun s => { s with refillBank := some b }).judgeClaim b
      (judged.1.actOnAnswer b judged.2).tell [.grantPass false]

/-- The pending claim is withdrawn (R53, R69): it and the refill bank become absent. -/
def Controller.withdrawClaim (c : Controller) : Controller :=
  if c.sched.claimPending.isSome then
    { c with
      alloc := { c.alloc with compressorClaim := none }
      sched := { c.sched with claimPending := none, refillBank := none } }
  else c

/-- The end of a precool grant pass (R51): a pending claim is judged while the list is empty, and a scan is run if the
pass placed a parked request (log entry 19). A claim judged again and still WAITING has no answer. -/
def Controller.endPass (c : Controller) (placed : Bool) : Eff :=
  let judged : Eff :=
    match c.alloc.precoolList, c.alloc.compressorClaim with
    | [], some b =>
      let j := c.judgeClaim b
      match j.2 with
      | .waiting => .of j.1
      | answer => j.1.actOnAnswer b answer
    | _, _ => .of c
  if placed then judged.tell [.grantScan] else judged

/-- R51: the pass serves the head of the precool list, or ends. -/
def Controller.grantPass (c : Controller) (placed : Bool) : Eff :=
  match c.grantHead placed with
  | some e => e
  | none => c.endPass placed

/-! ## Faults and the end of a refill (R73, R78) -/

/-- R78: the compressor goes FAULTED. -/
def Controller.goFaulted (c : Controller) (why : FaultReason) (b : Option BankId) : Controller :=
  let d := c.withdrawClaim.updSched fun s => { s with state := .faulted, backoff := none, stallWindow := none }
  d.notice plantPort 0x60 (compressorFaultedBody why b d.sched.stallCount)

/-- The state a refill end leads to (R73 step 6); STALL and the faults are completed by their own rules. -/
def RefillEnd.next (why : RefillEnd) : CompressorState :=
  match why with
  | .full | .preempted | .isolated | .chillerShed | .plantLink => .stopped
  | .stall => .backoff
  | .starved => .starved
  | .startUnconfirmed | .valveUnconfirmed => .faulted

/-- R73: a refill in STARTING or RUNNING ends; the reservation is released for ISOLATED too (log entry 23), and
its grant pass runs after the other steps (log entry 44). -/
def Controller.endRefill (c : Controller) (why : RefillEnd) : Eff :=
  let concerned := c.sched.refillBank
  let step1 := c.updSched fun s => { s with stallWindow := none, runConfirmed := false, valveOpen := false }
  let step3 : Eff :=
    if why = .plantLink then .of step1
    else
      let stopped := step1.callStop concerned
      let released := match stopped.sched.heldBank with
        | some h =>
          if why = RefillEnd.isolated then stopped.updSched fun s => { s with heldBank := none }
          else (stopped.releaseBank h.bank .compressor).updSched fun s => { s with heldBank := some ⟨h.bank, true⟩ }
        | none => stopped
      released.releaseCompressor
  (step3.change fun d => d.updSched fun s => { s with
      refillBank := none
      stallCount := if why = .full then 0 else s.stallCount
      state := why.next }).tell (if why.next = .stopped ∧ why ≠ .plantLink then [.startAttempt] else [])

/-- Whether a refill is in progress: STARTING or RUNNING. -/
def Scheduler.refilling (s : Scheduler) : Bool := s.state == .starting || s.state == .running

/-! ## The queue (R66, R67) -/

/-- A bank joins the queue at the tail of its tier's part (R66). -/
def joinQueue (tierOf : BankId → Tier) (b : BankId) : List BankId → List BankId
  | [] => [b]
  | u :: us => if (tierOf u).rank < (tierOf b).rank then b :: u :: us else u :: joinQueue tierOf b us

/-- A bank leaves the queue; if a pending claim names it, the claim is withdrawn and a start attempt is run (R67). -/
def Controller.leaveQueue (c : Controller) (b : BankId) : Eff :=
  let d := c.updSched fun s => { s with queue := s.queue.filter fun u => u != b }
  if d.sched.claimPending = some b then
    ⟨d.withdrawClaim.updSched fun s => { s with state := .stopped }, [.startAttempt]⟩
  else .of d

/-- R66: the queue is judged at a bank sample. A bank that leaves the queue at it is no queued bank for R68, and no start
attempt is run for it (log entry 45). -/
def Controller.judgeQueue (c : Controller) (b : BankId) : Eff :=
  let r := c.bank b
  let settings := c.store.settings.banks
  match r.pressure with
  | none => .of c
  | some p =>
    if settings.stopThreshold.of r.tier ≤ p then
      (c.leaveQueue b).andThen fun d =>
        if d.sched.refillBank = some b ∧ d.sched.refilling = true then d.endRefill .full else .of d
    else
      let joined :=
        if p < settings.startThreshold.of r.tier ∧ ¬ b ∈ c.sched.queue ∧ r.state ≠ .isolated then
          c.updSched fun s => { s with queue := joinQueue (fun u => (c.bank u).tier) b s.queue }
        else c
      let joins := p < settings.startThreshold.of r.tier ∧ ¬ b ∈ c.sched.queue ∧ r.state ≠ .isolated
      ⟨joined, if joined.sched.state = .stopped ∧ (joins ∨ (b ∈ joined.sched.queue ∧ r.state = .idle))
        then [.startAttempt] else []⟩

/-- R67, R74: the Scheduler is told that a bank is ISOLATED: it leaves the queue, ends the refill it serves, and is no
longer held. -/
def Controller.toldIsolated (c : Controller) (b : BankId) : Eff :=
  (c.leaveQueue b).andThen fun d =>
    match d.sched.heldBank with
    | some h =>
      if h.bank ≠ b then .of d
      else if d.sched.refilling then d.endRefill .isolated
      else ⟨d.updSched fun s => { s with heldBank := none }, [.startAttempt]⟩
    | none => .of d

/-- R73: the release of the bank held is complete. -/
def Controller.compressorReleased (c : Controller) (b : BankId) : Eff :=
  match c.sched.heldBank with
  | some h => if h.bank = b then ⟨c.updSched fun s => { s with heldBank := none }, [.startAttempt]⟩ else .of c
  | none => .of c

/-- R74: the Allocator ends the refill, if one is in progress. -/
def Controller.allocatorEndsRefill (c : Controller) (why : RefillEnd) : Eff :=
  if c.sched.refilling then c.endRefill why else .of c

/-! ## Starting and running (R71, R72) -/

/-- R72: at the second of the two confirmations the compressor is RUNNING and its stall window starts. -/
def Controller.judgeRunning (c : Controller) : Controller :=
  if c.sched.state = .starting ∧ c.sched.runConfirmed = true ∧ c.sched.valveOpen = true then
    c.updSched fun s => { s with state := .running, stallWindow := some ⟨stallWindowTime, s.discharge⟩ }
  else c

/-- R72: the Allocator reports that the bank's valve is open. -/
def Controller.compressorValveOpened (c : Controller) : Controller :=
  if c.sched.state = .starting then (c.updSched fun s => { s with valveOpen := true }).judgeRunning else c

/-- R78: the Allocator reports that the bank's valve did not open. -/
def Controller.compressorValveFailed (c : Controller) (b : BankId) : Eff :=
  (c.allocatorEndsRefill .valveUnconfirmed).change fun d => d.goFaulted .valveUnconfirmed (some b)

/-- The state a RUN_CONFIRM reports for an action: RUNNING 01h for a START, STOPPED 02h for a STOP (R71). -/
def Scheduler.runMatches (s : Scheduler) (tag state : Octet) : Bool :=
  match s.order with
  | some o => o.tag = tag && o.action.code = state
  | none => false

/-- R71: a matching RUN_CONFIRM. -/
def Controller.runConfirmed (c : Controller) (o : RunOrder) : Eff :=
  let d := c.updSched fun s => { s with order := none }
  match o.action with
  | .start =>
    if d.sched.stopPending then .of ((d.updSched fun s => { s with stopPending := false }).handRun .stop o.bank)
    else if d.sched.state = .starting then .of (d.updSched fun s => { s with runConfirmed := true }).judgeRunning
    else .of d
  | .stop => if d.sched.state = .stopped then ⟨d, [.startAttempt]⟩ else .of d

/-- R71: the expiry of a START order's confirmation timer. -/
def Controller.startTimedOut (c : Controller) (o : RunOrder) : Eff :=
  let d := c.updSched fun s => { s with order := none, stopPending := false }
  let ended := if d.sched.state = .starting then d.endRefill .startUnconfirmed else .of d
  ended.change fun e => (e.callStop o.bank).goFaulted .startUnconfirmed o.bank

/-- R71: the expiry of a STOP order's confirmation timer. -/
def Controller.stopTimedOut (c : Controller) (o : RunOrder) : Controller :=
  (c.updSched fun s => { s with order := none }).goFaulted .stopUnconfirmed o.bank

/-! ## Samples, stalls and starvation (R75 to R77) -/

/-- R77: starvation is judged on the latest inlet pressure of a sample. -/
def Controller.judgeStarvation (c : Controller) (inlet : Nat) : Eff :=
  if inlet < inletMinimum then
    match c.sched.state with
    | .stopped => .of (c.updSched fun s => { s with state := .starved })
    | .waitCooling => .of (c.withdrawClaim.updSched fun s => { s with state := .starved })
    | .starting | .running => c.endRefill .starved
    | .backoff | .starved | .faulted => .of c
  else
    match c.sched.state with
    | .starved => ⟨c.updSched fun s => { s with state := .stopped }, [.startAttempt]⟩
    | _ => .of c

/-- R75: the stall window is judged on a discharge pressure. -/
def StallWindow.judge (w : StallWindow) (discharge : Nat) : StallWindow :=
  match w.base with
  | none => { w with base := some discharge }
  | some base => if base + qualifyingRise ≤ discharge then ⟨stallWindowTime, some discharge⟩ else w

/-- R75: a COMPRESSOR_SAMPLE. -/
def Controller.takeCompressorSample (c : Controller) (inlet discharge : Nat) : Eff :=
  ((c.updSched fun s => { s with inlet := some inlet, discharge := some discharge }).judgeStarvation inlet).change
    fun d => if d.sched.state = .running then
        d.updSched fun s => { s with stallWindow := s.stallWindow.map fun w => w.judge discharge }
      else d

/-- R76: the stall window expires in RUNNING. -/
def Controller.stall (c : Controller) : Eff :=
  let n := c.sched.stallCount + 1
  let b := c.sched.refillBank
  ((c.updSched fun s => { s with stallCount := n }).endRefill .stall).change fun d =>
    if n < stallLimit then d.updSched fun s => { s with state := .backoff, backoff := some (backoffTime n) }
    else d.goFaulted .stallLimit b

/-- R76: the backoff timer expires. -/
def Controller.backoffExpired (c : Controller) : Eff :=
  let d := c.updSched fun s => { s with backoff := none }
  if d.sched.inletLow then .of (d.updSched fun s => { s with state := .starved })
  else ⟨d.updSched fun s => { s with state := .stopped }, [.startAttempt]⟩

/-- R79: the loss of port P0 reaches the Scheduler. -/
def Controller.schedulerPlantLoss (c : Controller) : Eff :=
  ((if c.sched.refilling then c.endRefill .plantLink else .of c)).change fun d => d.updSched fun s =>
    { s with
      order := none, stopPending := false, heldBank := none, claimPending := none, refillBank := none, queue := []
      backoff := none, stallWindow := none, inlet := none, discharge := none
      state := if s.state = .faulted then .faulted else .stopped }

end Sys2Proof.Machine
end

