-- ==== Sys2Proof/Machine/Ring.lean ====
section
/-! DEFINITION. Chapter 10: the transaction ring, its sequence numbers, allocation, notices and till requests, as
operations of the Transaction Ring. The billing of a close is in Metering.lean. -/

namespace Sys2Proof.Machine

/-- The last sequence number; its successor is 1 (R149). -/
def lastSeq : Nat := 4294967295

/-- R149: the successor of a sequence number. -/
def succSeq (s : Nat) : Nat := if s = lastSeq then 1 else s + 1

/-- R149: the forward distance from one sequence number to another. -/
def forwardDistance (x y : Nat) : Nat := (y + lastSeq - x) % lastSeq

/-- The held count (R147). -/
def Ring.heldCount (r : Ring) : Nat := r.records.length

/-- The oldest unacknowledged sequence number; the next sequence number while no record is held (R147). -/
def Ring.oldest (r : Ring) : Nat :=
  match r.records with
  | x :: _ => x.seq
  | [] => r.nextSeq

/-- The newest allocated sequence number; 0 while no record is held (R17, R149). -/
def Ring.newest (r : Ring) : Nat :=
  match r.records.getLast? with
  | some x => x.seq
  | none => 0

/-- R149: whether a sequence number is held. -/
def Ring.isHeld (r : Ring) (s : Nat) : Bool :=
  0 < r.heldCount && s ≠ 0 && forwardDistance r.oldest s < r.heldCount

/-- R149: whether a sequence number that is not held is beyond the newest. -/
def Ring.isBeyond (r : Ring) (s : Nat) : Bool :=
  !r.isHeld s && 0 < r.heldCount && s ≠ 0 && forwardDistance r.nextSeq s < 2147483648

/-- The held record with a sequence number. -/
def Ring.find (r : Ring) (s : Nat) : Option Record :=
  if r.isHeld s then r.records[forwardDistance r.oldest s]? else none

/-- The slot of the held record at a place, the oldest at place 0 (R147). -/
def Ring.slotOf (r : Ring) (i : Nat) : Nat := (r.nextSlot.val + 64 * 2 - r.heldCount + i) % 64

/-- Whether a CLOSED record is held (R154). -/
def Ring.holdsClosed (r : Ring) : Bool := r.records.any fun x => x.closed

/-- Whether an OPEN record is held (R28). -/
def Ring.holdsOpen (r : Ring) : Bool := r.records.any fun x => !x.closed

/-- The newest closed: the held CLOSED record farthest from the oldest (R154). -/
def Ring.newestClosed (r : Ring) : Nat :=
  match (r.records.filter fun x => x.closed).getLast? with
  | some x => x.seq
  | none => 0

/-- A record at its allocation (R148, R150). -/
def newRecord (seq : Nat) (n : Nozzle) (v : VehicleClass) (a : Authorisation) (time : BitVec 32) : Record where
  seq := seq
  closed := false
  nozzle := n
  vclass := v
  customerClass := a.customerClass
  priority := a.priority
  moneyLimit := a.moneyLimit
  massLimit := a.massLimit
  price := a.price
  authoriseTime := time
  flowStart := none
  closeTime := none
  band := none
  rampRate := none
  precoolClass := none
  endPressure := none
  endReason := none
  ventUnconfirmed := false
  degraded := false
  rebased := false
  segments := []
  metered := 0
  ventCorrection := 0
  billable := 0
  billed := 0
  unbilled := 0
  charge := 0
  reference := none
  checkWord := 0
  checkValid := false

/-- R150: a record is allocated as the newest, and the sequence number and slot advance. -/
def Ring.allocate (r : Ring) (x : Record) : Ring :=
  { r with records := r.records ++ [x], nextSeq := succSeq r.nextSeq, nextSlot := r.nextSlot + 1 }

/-- R154: the RECORDS_READY notice is judged. -/
def Controller.judgeNotice (c : Controller) : Controller :=
  if !c.ring.noticeOwed || c.ring.pacing.isSome then c
  else if !c.ring.holdsClosed then { c with ring := { c.ring with noticeOwed := false } }
  else if (c.port tillPort).link = .down then c
  else
    let sent := c.handNotice tillPort 0x63 (recordsReadyBody c.ring.oldest c.ring.newestClosed)
    { sent.1 with ring := { sent.1.ring with
        pacing := some (c.store.settings.links.pacing * 100)
        noticeOwed := if sent.2 then false else true } }

/-- R154: notice-owed is set, and the notice judged. -/
def Controller.oweNotice (c : Controller) : Controller :=
  ({ c with ring := { c.ring with noticeOwed := true } }).judgeNotice

/-- R5, R154: the till port goes UP. -/
def Controller.ringTillUp (c : Controller) : Controller :=
  if c.ring.holdsClosed then c.oweNotice else c.judgeNotice

/-- R154: the pacing timer expires. -/
def Controller.pacingExpired (c : Controller) : Controller :=
  ({ c with ring := { c.ring with pacing := none } }).judgeNotice

/-- R155 step 3: at most `k` records freed from the oldest, stopping at the first OPEN record. -/
def freeRecords : Nat → List Record → List Record
  | 0, l => l
  | _, [] => []
  | k + 1, x :: l => if x.closed then freeRecords k l else x :: l

/-- R155 steps 1 to 3: the records an ACKNOWLEDGE leaves held. -/
def Ring.acknowledge (r : Ring) (s : Nat) : Ring :=
  let upTo := if r.isBeyond s then r.newest else s
  if r.isHeld upTo then { r with records := freeRecords (forwardDistance r.oldest upTo + 1) r.records } else r

/-- R155: an ACKNOWLEDGE is carried out. -/
def Controller.acknowledge (c : Controller) (s : Nat) : Controller :=
  let d := { c with ring := c.ring.acknowledge s }
  if d.ring.holdsClosed then d.oweNotice else d

/-- R157: a reference is attached to a record; on a CLOSED record check-valid is cleared. -/
def Record.attach (r : Record) (reference : List Octet) : Record :=
  { r with
    reference := if reference = [] then none else some reference
    checkValid := if r.closed then false else r.checkValid }

/-- R158: the check word of a record is computed afresh. -/
def Record.refresh (r : Record) : Record := { r with checkWord := checkWordOf r, checkValid := true }

/-- R159: the result octet of a VERIFY_CHECK: MATCH 01h, MISMATCH 02h, NOT_CHECKED 03h. -/
def Record.verify (r : Record) (word : BitVec 32) : Octet :=
  if r.checkValid then (if word = checkWordOf r then 0x01 else 0x02) else 0x03

end Sys2Proof.Machine
end

