-- ==== Sys2Proof/Machine/Metering.lean ====
section
/-! DEFINITION. Chapter 9: meter counts, the fill limits, billing at close, the totalisers and the tariff windows, as
operations of the Meter and Charge Unit, and the close of a record (R151, R153). -/

namespace Sys2Proof.Machine

/-! ## Fill limits and billing -/

/-- R138: the fill limits from L, M, P, the class maximum fill mass C and V_min. -/
def fillLimits (l : Nat) (m : Option Nat) (p c vMin : Nat) : FillLimits :=
  let q := ((l + 1) * 100000 - 50001) / p
  let bStop := if p = 0 then c else min q c
  let bLim := match m with | some k => min bStop k | none => bStop
  ⟨bStop, bLim, if 0 < p ∧ q ≤ c ∧ q ≤ m.getD q then .money else .mass, vMin, bLim + vMin⟩

/-- The rounded charge of a mass at a price (R138, R140). -/
def chargeOf (mass price : Nat) : Nat := (mass * price + 50000) / 100000

/-- The vent band of an end pressure (R133). -/
def ventBand (p : Nat) : Fin 8 := Fin.ofNat 8 (min (p / 12500) 7)

/-- V_min of a nozzle (R133). -/
def MeterGroup.vMin (g : MeterGroup) (n : Nozzle) : Nat := g.vent[n][0]

/-- The vent correction at close (R140): 0 without an end pressure. -/
def MeterGroup.ventFor (g : MeterGroup) (n : Nozzle) : Option Nat → Nat
  | some p => g.vent[n][ventBand p]
  | none => 0

/-- R140: the billing fields of a record, for a vent correction and a billing limit. -/
def Record.bill (r : Record) (v bLim : Nat) : Record :=
  let billable := r.metered - v
  let billed := min billable bLim
  { r with
    ventCorrection := v, billable := billable, billed := billed, unbilled := billable - billed
    charge := chargeOf billed r.price }

/-- The largest value of a totaliser and of a metered mass, plus one: 2^48 (R132, R134, R141). -/
def massModulus : Nat := 281474976710656

/-- R141: a totaliser with a mass added. -/
def addTotal (total mass : Nat) : Nat := (total + mass) % massModulus

/-- The fill limits recomputed from a record's own fields (R146). -/
def Controller.limitsOfRecord (c : Controller) (r : Record) : FillLimits :=
  let g := c.store.settings.meter
  fillLimits r.moneyLimit r.massLimit r.price (g.classMaxMass.of r.vclass) (g.vMin r.nozzle)

/-- A record after its close (R151 steps 1 to 4). -/
def Controller.closedForm (c : Controller) (r : Record) (bLim : Nat) : Record :=
  let v := c.store.settings.meter.ventFor r.nozzle r.endPressure
  { (r.bill v bLim) with closeTime := some c.store.clock, closed := true }.refresh

/-- The totalisers with a closing record's mass added (R141). -/
def Controller.addToTotals (c : Controller) (n : Nozzle) (mass : Nat) : Controller :=
  { c with
    stationTotal := addTotal c.stationTotal mass
    nozzleTotals := c.nozzleTotals.set n (addTotal c.nozzleTotals[n] mass) }

/-- R137: the meter state at the close of the nozzle's record. -/
def Meter.atClose (m : Meter) : Meter :=
  { m with
    metering := false, implausible := 0, limits := none, stopReported := false, stopReport := none
    faultReport := false }

/-- R151: the close of the OPEN record a context holds: billing, totalisers, close time, check word, meter state, and
the notice to the till. -/
def Controller.closeRecord (c : Controller) (n : Nozzle) : Controller :=
  match c.recordOf n with
  | none => c
  | some r =>
    if r.closed then c
    else
      let bLim := match (c.meter n).limits with | some f => f.bLim | none => (c.limitsOfRecord r).bLim
      (((c.updRecord r.seq fun x => c.closedForm x bLim).addToTotals n r.metered).updMeter n Meter.atClose).oweNotice

/-- R153: an OPEN record is closed with reason RESTART from its retained running fields. -/
def Record.restarted (r : Record) : Record :=
  { r with
    endReason := some .restart, endPressure := none
    ventUnconfirmed := if r.flowStart.isSome then true else r.ventUnconfirmed }

/-- R146, R153: one record of the ring at a warm restart; a CLOSED one is kept. -/
def Controller.closeAtRestart (c : Controller) (r : Record) : Record :=
  if r.closed then r else c.closedForm r.restarted (c.limitsOfRecord r).bLim

/-- R141, R146: the totalisers after the closes of a warm restart. -/
def Controller.totalsAtRestart (c : Controller) : List Record → Controller
  | [] => c
  | r :: rest => (if r.closed then c else c.addToTotals r.nozzle r.metered).totalsAtRestart rest

/-! ## Meter counts (R134 to R139) -/

/-- A mass added to a record's metered mass and to its newest segment (R134). -/
def Record.addMass (r : Record) (mass : Nat) : Record :=
  if r.segments = [] then r
  else { r with
    metered := r.metered + mass
    segments := modifyLast (fun g => { g with mass := g.mass + mass }) r.segments }

/-- R139: the stop threshold is tested after a sample has added mass. -/
def Meter.testStop (m : Meter) (metered : Nat) : Meter :=
  match m.limits with
  | some f =>
    if f.threshold ≤ metered ∧ m.stopReported = false then { m with stopReported := true, stopReport := some f.kind }
    else m
  | none => m

/-- R135: an implausible sample raises the counter, and at 3 the fault report is made. -/
def Meter.implausibleSample (m : Meter) : Meter :=
  if m.implausible < 3 then
    { m with implausible := m.implausible + 1, faultReport := m.faultReport || m.implausible == 2 }
  else m

/-- R134: a nozzle's meter takes a count in METERING, the increment being `d`. -/
def Controller.meterSample (c : Controller) (n : Nozzle) (d : Nat) : Controller :=
  let g := c.store.settings.meter
  let mass := d * g.kFactor[n]
  let metered := match c.recordOf n with | some r => r.metered | none => 0
  if d ≤ g.maxPulses[n] ∧ metered + mass < massModulus then
    let added := (c.updRecordOf n fun r => r.addMass mass).updMeter n fun m => { m with implausible := 0 }
    if 0 < mass then added.updMeter n fun m => m.testStop (metered + mass) else added
  else
    (c.updRecordOf n fun r => { r with rebased := true }).updMeter n Meter.implausibleSample

/-- R136: an increment that no fill accounts for. -/
def Controller.unexplainedFlow (c : Controller) (n : Nozzle) (d : Nat) (count : BitVec 16) : Controller :=
  match (c.ctx n).state with
  | .idle | .connected =>
    c.notice plantPort 0x60 (unexplainedFlowBody n d count (d * c.store.settings.meter.kFactor[n]))
  | _ => c

/-- R134: the Meter and Charge Unit takes a count for a nozzle. -/
def Controller.takeCount (c : Controller) (n : Nozzle) (count : BitVec 16) : Controller :=
  let m := c.meter n
  let counted := c.updMeter n fun m => { m with reference := some count }
  match m.reference with
  | none => counted
  | some old =>
    let d := (count - old).toNat
    if m.metering then counted.meterSample n d
    else if d = 0 then counted
    else counted.unexplainedFlow n d count

/-- R142: the running charge of the fill at a nozzle. -/
def Controller.runningCharge (c : Controller) (n : Nozzle) : Nat :=
  match c.recordOf n, (c.meter n).limits with
  | some r, some f => chargeOf (min (r.metered - f.vMin) f.bLim) r.price
  | _, _ => 0

/-! ## Tariff windows (R143 to R145) -/

/-- The place of a price in a window: LP classes 0 to 3, then HP classes 0 to 3 (R143). -/
def priceIndex (v : VehicleClass) (k : Nat) : Fin 8 :=
  Fin.ofNat 8 ((match v with | .lp => 0 | .hp => 4) + k)

/-- R145: the price of a vehicle class and customer class in the ACTIVE window. -/
def Controller.priceFor (c : Controller) (v : VehicleClass) (k : Nat) : Nat := (c.active[priceIndex v k]).toNat

/-- R144: the PENDING window becomes ACTIVE when the clock has reached its effective time. -/
def Controller.compareTariff (c : Controller) : Controller :=
  match c.pendingTariff with
  | some w => if w.effective ≤ c.store.clock then { c with active := w.prices, pendingTariff := none } else c
  | none => c

end Sys2Proof.Machine
end

