-- ==== Sys2Proof/Machine/Thermal.lean ====
section
/-! DEFINITION. Chapter 6: the precool class, the ambient reduction and the ambient band, as operations of the Thermal
Monitor. -/

namespace Sys2Proof.Machine

/-- R82: the precool class of a supply temperature, in tenths of a degree. -/
def classOfSupply (t : Int) : PrecoolClass :=
  if t ≤ -330 then .t40 else if t ≤ -260 then .t30 else if t ≤ -175 then .t20 else .noClass

/-- R81: a CHILLER_SAMPLE. -/
def Controller.takeChillerSample (c : Controller) (supply : Int) (derate : Nat) : Eff :=
  let before := c.thermal.precoolClass
  let after := classOfSupply supply
  ⟨{ c with thermal := { c.thermal with supply := some supply, precoolClass := after, derate := derate } },
    .derateGiven derate :: (if after = before then [] else [.classChanged after])⟩

/-- R88: the floor of the equal average of the VALID sensors. -/
def equalAverage (l : List Int) : Int := l.sum / (l.length : Int)

/-- R87, R88: the reduced ambient temperature of the three sensors; none when no sensor is VALID. -/
def reduceAmbient (mode : ReductionMode) (a1 a2 a3 : Option Int) : Option Int :=
  match mode, a1, a2, a3 with
  | .weighted, some x, some y, some z => some ((2 * x + y + z) / 4)
  | .equal, some x, some y, some z => some ((x + y + z) / 3)
  | .primary, some x, _, _ => some x
  | _, _, _, _ =>
    match [a1, a2, a3].filterMap id with
    | [] => none
    | v :: l => some (equalAverage (v :: l))

/-- R90: the number of band edges equal to or less than a value. -/
def bandOf (edges : Vector Int 7) (v : Int) : Fin 8 :=
  Fin.ofNat 8 (edges.toList.countP fun e => e ≤ v)

/-- R86 to R90: an AMBIENT_SAMPLE, its three values judged. -/
def Thermal.takeAmbient (t : Thermal) (g : AmbientGroup) (a1 a2 a3 : Option Int) : Thermal :=
  let seen := { t with a1 := a1, a2 := a2, a3 := a3 }
  let judged :=
    match reduceAmbient g.mode a1 a2 a3 with
    | some v => { seen with reduced := some v, condition := .known, holdTimer := none }
    | none =>
      match seen.condition with
      | .known => { seen with condition := .held, holdTimer := some 60000 }
      | .held | .unknown => seen
  { judged with band := match judged.condition, judged.reduced with
      | .known, some v | .held, some v => bandOf g.edges v
      | _, _ => 7 }

/-- R89: the ambient hold timer expires. -/
def Thermal.holdExpired (t : Thermal) : Thermal :=
  { t with condition := .unknown, reduced := none, band := 7, holdTimer := none }

end Sys2Proof.Machine
end

