-- ==== Sys2Proof/Machine/Fills.lean ====
section
/-! DEFINITION. Chapter 7: the nozzle contexts, flow and vent orders, ending and close, and chapter 8's hold, as the
operations of the Fill Sequencer that its other rules share. -/

namespace Sys2Proof.Machine

/-! ## The fields of a context -/

/-- R93: at a taken AUTHORISE every field from the join number onward returns to its reset value, but for the latest
measured pressure, the gas temperature and release outstanding. -/
def Context.fresh (x : Context) (v : VehicleClass) (a : Authorisation) : Context :=
  { restContext v with
    state := x.state, connected := x.connected, vehicleData := x.vehicleData, auth := some a
    measured := x.measured, gasTemp := x.gasTemp, releaseOutstanding := x.releaseOutstanding }

/-- The states from LEAK_CHECK to HOLD, in which an end begins ending (R110). -/
def NozzleState.flowing : NozzleState → Bool
  | .leakCheck | .ramping | .hold => true
  | _ => false

/-- The states that hold an OPEN record (R95). -/
def NozzleState.holdsRecord : NozzleState → Bool
  | .authorised | .waitResources | .leakCheck | .ramping | .hold | .ending => true
  | _ => false

/-- The bank tenure a FLOW order names: the current bank's, or that of the bank held last (R105). -/
def Context.flowBank (x : Context) : Option BankRef :=
  match x.currentBank with
  | some b => some b
  | none => x.lastBank

/-- The tier floor of the next bank request: the tier of the bank held last (R125). -/
def Context.floor (x : Context) : Tier :=
  match x.lastBank with
  | some b => b.tier
  | none => .low

/-! ## Ramp entries (R50, R108, R117) -/

/-- The ramp table entry of a class, band and precool class; none for class NONE. -/
def RampGroup.at (r : RampGroup) (v : VehicleClass) (band : Fin 8) (k : PrecoolClass) : Option RampEntry :=
  (rampSlot v band k).map fun i => r.table[i]

/-- The entry, if it is permitted: the class is not NONE and R is not 0. -/
def RampGroup.permitted (r : RampGroup) (v : VehicleClass) (band : Fin 8) (k : PrecoolClass) : Option RampEntry :=
  match r.at v band k with
  | some e => if e.rate = 0 then none else some e
  | none => none

/-- The permitted entry of the coldest precool class, taking T40, then T30, then T20. -/
def RampGroup.coldest (r : RampGroup) (v : VehicleClass) (band : Fin 8) : Option RampEntry :=
  match r.permitted v band .t40, r.permitted v band .t30 with
  | some e, _ => some e
  | none, some e => some e
  | none, none => r.permitted v band .t20

/-- R50: the amount of a precool request. -/
def RampGroup.amount (r : RampGroup) (v : VehicleClass) (band : Fin 8) (k : PrecoolClass) : Nat :=
  match r.permitted v band k with
  | some e => e.load
  | none =>
    match r.coldest v band with
    | some e => e.load
    | none => match r.at v band .t40 with | some e => e.load | none => 0

/-- R108: the P_end against which a fill is judged at the end of its settle window. -/
def RampGroup.judgedEnd (r : RampGroup) (v : VehicleClass) (band : Fin 8) (k : PrecoolClass) : Nat :=
  match r.permitted v band k with
  | some e => e.pEnd
  | none => match r.coldest v band with | some e => e.pEnd | none => classMaximum v

/-- The ramp step Δ in milliseconds. -/
def RampGroup.stepTime (r : RampGroup) : Nat := r.step * 100

/-! ## Flow and vent orders (R105, R110) -/

/-- R105: a FLOW order is handed whenever the flow state and the wanted flow differ and none is in flight. -/
def Controller.driveFlow (c : Controller) (n : Nozzle) : Controller :=
  let x := c.ctx n
  if x.wanted = x.flow ∨ x.flowOrder.isSome = true then c
  else match x.flowBank with
    | none => c
    | some b =>
      let sent := c.handOrder (portOfNozzle n) 0x52 (flowBody x.wanted b.generation)
      sent.1.updCtx n fun x => { x with flowOrder := some ⟨x.wanted, sent.2, b.generation, some c.orderTime⟩ }

/-- The vent time in milliseconds (R110). -/
def ventTime : Nat := 10000

/-- R110: the end pressure is written if the record has a flow start time, and a VENT order is handed. -/
def Controller.orderVent (c : Controller) (n : Nozzle) : Controller :=
  let measured := (c.ctx n).measured
  let written := c.updRecordOf n fun r => if r.flowStart.isSome then { r with endPressure := some measured } else r
  let sent := written.handOrder (portOfNozzle n) 0x53 []
  sent.1.updCtx n fun x => { x with ventOrder := some ⟨sent.2, some ventTime⟩ }

/-- R110: the vent is ordered at the first moment at which the flow is CLOSED and no flow order is in flight. -/
def Controller.ventIfShut (c : Controller) (n : Nozzle) : Controller :=
  let x := c.ctx n
  if x.flow = .closed ∧ x.flowOrder.isNone = true then c.orderVent n else c

/-! ## The close of a fill (R96, R112) -/

/-- A FILL_ENDED notice to the nozzle's dispenser port and to the till port (R96). -/
def Controller.noticeEnded (c : Controller) (n : Nozzle) : Controller :=
  match c.recordOf n with
  | some r => (c.notice (portOfNozzle n) 0x62 (fillEndedBody n r)).notice tillPort 0x62 (fillEndedBody n r)
  | none => c

/-- The record of a fill is closed and FILL_ENDED handed (R96, R112, R151). -/
def Controller.closeFill (c : Controller) (n : Nozzle) : Controller := (c.closeRecord n).noticeEnded n

/-- The end reason of a fill, in its context and in its record. -/
def Controller.setReason (c : Controller) (n : Nozzle) (why : EndReason) : Controller :=
  (c.updCtx n fun x => { x with endReason := some why }).updRecordOf n fun r => { r with endReason := some why }

/-- R96: a fill in AUTHORISED or WAIT_RESOURCES is closed without flow. The grant pass of its precool release (R52) runs
after the close and its FILL_ENDED notices (log entry 44). -/
def Controller.closeWithoutFlow (c : Controller) (n : Nozzle) (why : EndReason) : Eff :=
  let stopped := (c.updCtx n fun x => { x with connectWait := none, resourceWait := none }).setReason n why
  (stopped.precoolRelease n).change fun d =>
    (d.closeFill n).updCtx n fun x => { x with
      auth := none, state := if x.connected then .connected else .idle }

/-- R112: with vent and bank both settled the fill's record is closed. -/
def Controller.settleEnding (c : Controller) (n : Nozzle) : Controller :=
  let x := c.ctx n
  if x.state = .ending ∧ x.ventSettled = true ∧ x.bankSettled = true then
    (c.closeFill n).updCtx n fun x => { x with
      progressTimer := none
      auth := if x.hangSeen then none else x.auth
      state := if x.hangSeen then .idle else .complete }
  else c

/-! ## Ending (R110) -/

/-- The fields of a context at its entry to ENDING: the leak check is over (log entry 26), the hold causes stay. -/
def Context.enterEnding (x : Context) : Context :=
  { x with
    state := .ending, phase := none, leakTimer := none, sensitive := .over, rampTimer := none
    holdTimer := { x.holdTimer with running := false }
    ventSettled := false, bankSettled := x.currentBank.isNone, wanted := .closed }

/-- R110: a fill enters ENDING. The grant pass of its precool release (R52) runs after its bank release and its orders
are handed (log entry 44). -/
def Controller.beginEnding (c : Controller) (n : Nozzle) (why : EndReason) : Eff :=
  let entered := (c.updCtx n Context.enterEnding).setReason n why
  (entered.precoolRelease n).change fun d =>
    let released := match (d.ctx n).currentBank with
      | some b => d.releaseBank b.bank (.nozzle n)
      | none => d
    (released.driveFlow n).ventIfShut n

/-- An end reaches a fill in LEAK_CHECK, RAMPING or HOLD; in any other state it changes nothing (R110). -/
def Controller.endIfFlowing (c : Controller) (n : Nozzle) (why : EndReason) : Eff :=
  if (c.ctx n).state.flowing then c.beginEnding n why else .of c

/-! ## Banks (R103, R110, R125) -/

/-- The close pressure is written into the open segment, and the current bank becomes the last bank (R110, R125). -/
def Controller.dropBank (c : Controller) (n : Nozzle) (pressure : Option Nat) : Controller :=
  (c.updRecordOf n fun r => { r with
      segments := modifyLast (fun g => { g with closePressure := pressure }) r.segments }).updCtx n fun x =>
    { x with currentBank := none, lastBank := x.currentBank }

/-- The current bank becomes the last bank, with no close pressure written (R115). -/
def Controller.forgetBank (c : Controller) (n : Nozzle) : Controller :=
  c.updCtx n fun x => match x.currentBank with
    | some b => { x with currentBank := none, lastBank := some b }
    | none => x

/-- A bank request of a fill, with the required pressure the Allocator sets (R54). -/
def Controller.bankClaim (c : Controller) (n : Nozzle) (floor : Tier) : BankClaim :=
  let x := c.ctx n
  ⟨n, (match x.auth with | some a => a.priority | none => 0), x.join.getD 0, x.vclass, floor,
    x.measured + c.store.settings.banks.differential⟩

/-- The number of segments a fill's record holds. -/
def Controller.segmentCount (c : Controller) (n : Nozzle) : Nat :=
  match c.recordOf n with
  | some r => r.segments.length
  | none => 0

/-- R125 steps 2 and 3. -/
def Controller.switchOn (c : Controller) (n : Nozzle) : Eff :=
  if 8 ≤ c.segmentCount n then c.beginEnding n .segmentLimit
  else ⟨c, [.bankRequest (c.bankClaim n (c.ctx n).floor)]⟩

/-- A segment is opened in the record (R103, R126). -/
def Controller.openSegment (c : Controller) (n : Nozzle) (ref : BankRef) (pressure : Option Nat) : Controller :=
  c.updRecordOf n fun r => { r with segments := r.segments ++ [⟨ref.bank, ref.tier, pressure, none, 0⟩] }

/-! ## Hold (R128) -/

/-- R128: a cause is added; a fill in RAMPING enters HOLD. -/
def Controller.addCause (c : Controller) (n : Nozzle) (k : HoldCause) : Controller :=
  match (c.ctx n).state with
  | .ramping =>
    (c.updCtx n fun x => { x with
      state := .hold, causes := x.causes.put k true, rampTimer := none, wanted := .closed
      holdTimer := { x.holdTimer with running := true } }).driveFlow n
  | .hold => c.updCtx n fun x => { x with causes := x.causes.put k true }
  | _ => c

/-- R128, R131: a cause is removed; a fill in HOLD left without one returns to RAMPING. -/
def Controller.removeCause (c : Controller) (n : Nozzle) (k : HoldCause) : Controller :=
  let x := c.ctx n
  if x.state = .hold then
    let left := x.causes.put k false
    if left.isEmpty then
      c.setCtx n { x with
        causes := left, state := .ramping, lagCount := 0
        rampTimer := some c.store.settings.ramp.stepTime
        holdTimer := { x.holdTimer with running := false } }
    else c.setCtx n { x with causes := left }
  else c.setCtx n { x with causes := x.causes.put k false }

/-! ## Waiting for resources (R93, R102) -/

/-- The last join number (R93). -/
def lastJoin : Nat := 4294967295

/-- The place of a join number among those that the contexts hold, from 1. -/
def Controller.joinRank (c : Controller) (j : Nat) : Nat :=
  1 + c.contexts.toList.countP fun x => match x.join with | some k => k < j | none => false

/-- How many contexts hold a join number. -/
def Controller.joinsHeld (c : Controller) : Nat := c.contexts.toList.countP fun x => x.join.isSome

/-- The join number of a nozzle's context, or the one given when it holds none. -/
def Controller.joinOf (c : Controller) (n : Nozzle) (old : Nat) : Nat := (c.ctx n).join.getD old

/-- A bank claim with its nozzle's join number. -/
def Controller.rejoin (c : Controller) (k : BankClaim) : BankClaim := { k with join := c.joinOf k.nozzle k.join }

/-- R93: the contexts' join numbers are renumbered from 1 in their order, the counter goes on after the last of them,
and the Allocator's entries take the new numbers of their nozzles. -/
def Controller.renumber (c : Controller) : Controller :=
  let d := { c with
    contexts := Vector.ofFn fun n => { c.contexts[n] with join := (c.contexts[n]).join.map c.joinRank }
    joinCounter := c.joinsHeld + 1 }
  let a := d.alloc
  { d with alloc := { a with
      precoolList := a.precoolList.map fun k => { k with join := d.joinOf k.nozzle k.join }
      bankList := a.bankList.map d.rejoin
      parked := Vector.ofFn fun n => (a.parked[n]).map d.rejoin
      banks := Vector.ofFn fun b => { a.banks[b] with nextHolder := (a.banks[b]).nextHolder.map d.rejoin } } }

/-- R93, R102: a fill takes its join number from the join counter. -/
def Controller.takeJoin (c : Controller) (n : Nozzle) : Controller :=
  let d := c.updCtx n fun x => { x with join := some c.joinCounter }
  if lastJoin ≤ c.joinCounter then d.renumber else { d with joinCounter := c.joinCounter + 1 }

/-- R102: a context enters WAIT_RESOURCES. -/
def Controller.enterWait (c : Controller) (n : Nozzle) : Eff :=
  let joined := c.takeJoin n
  let d := joined.updCtx n fun x => { x with
    state := .waitResources, connectWait := none
    resourceWait := some (c.store.settings.ramp.resourceWait * 1000) }
  let x := d.ctx n
  d.precoolRequest ⟨n, (match x.auth with | some a => a.priority | none => 0), x.join.getD 0,
    d.store.settings.ramp.amount x.vclass d.thermal.band d.thermal.precoolClass⟩

end Sys2Proof.Machine
end

