-- ==== Sys2Proof/Machine/Sequencer.lean ====
section
/-! DEFINITION. Chapters 7 and 8: what the Fill Sequencer does at each event: requests of the till, reports of the
dispenser, the leak check, the ramp, the bank switch, class changes, the pause, and the losses of a port. -/

namespace Sys2Proof.Machine

/-! ## Told by the Allocator (R102, R103, R106, R109, R110, R125 to R127, R129) -/

/-- R102, R129: the Sequencer is told that a nozzle's precool is granted. -/
def Controller.precoolGranted (c : Controller) (n : Nozzle) : Eff :=
  match (c.ctx n).state with
  | .waitResources =>
    if (c.ctx n).bankRequestMade then .of c
    else
      let d := c.updCtx n fun x => { x with bankRequestMade := true }
      ⟨d, [.bankRequest (d.bankClaim n .low)]⟩
  | .leakCheck => .of c
  | .ramping | .hold => .of (c.removeCause n .derateShed)
  | .idle | .authorised | .connected | .ending | .complete => c.precoolRelease n

/-- R61, R109, R128: the Sequencer is told that a nozzle's reservation is shed. -/
def Controller.nozzleShed (c : Controller) (n : Nozzle) : Eff :=
  match (c.ctx n).state with
  | .leakCheck => c.beginEnding n .leakCheckInterrupted
  | .ramping | .hold => .of (c.addCause n .derateShed)
  | .idle | .authorised | .connected | .waitResources | .ending | .complete => .of c

/-- R103: the fields of a context at the grant of its first bank. -/
def Context.enterLeakCheck (x : Context) (ref : BankRef) : Context :=
  { x with
    currentBank := some ref, resourceWait := none, state := .leakCheck, phase := some .opening
    progressTimer := some 1000 }

/-- R103, R126: the Sequencer is told of a bank grant. -/
def Controller.bankGranted (c : Controller) (n : Nozzle) (ref : BankRef) (pressure : Option Nat) : Eff :=
  let x := c.ctx n
  if x.state = .waitResources ∧ x.currentBank = none then
    .of ((((c.updCtx n fun x => x.enterLeakCheck ref).openSegment n ref pressure).updMeter n fun m =>
      { m with metering := true, implausible := 0 }))
  else if x.state = .hold ∧ x.causes.bankSwitch = true ∧ x.currentBank = none then
    .of ((c.updCtx n fun x => { x with currentBank := some ref }).openSegment n ref pressure)
  else .of ((c.releaseBank ref.bank (.nozzle n)).updCtx n fun x => { x with releaseOutstanding := true })

/-- Whether a bank is a context's current bank. -/
def Context.draws (x : Context) (b : BankId) : Bool :=
  match x.currentBank with
  | some r => r.bank == b
  | none => false

/-- R106: the phase becomes PULSE and the wanted flow OPEN. -/
def Controller.startPulse (c : Controller) (n : Nozzle) : Controller :=
  (c.updCtx n fun x => { x with phase := some .pulse, leakTimer := none, wanted := .opened }).driveFlow n

/-- R106, R126: the Sequencer is told that the valve of a bank is open. -/
def Controller.valveOpened (c : Controller) (n : Nozzle) (b : BankId) : Controller :=
  let x := c.ctx n
  if x.draws b = false then c
  else if x.state = .leakCheck ∧ x.phase = some .opening then
    let band := c.thermal.band
    let delay := c.store.settings.ramp.pulseDelay
    let d := (c.updRecordOf n fun r => { r with flowStart := some c.store.clock, band := some band }).updCtx n
      fun x => { x with band := some band, phase := some .delay, leakTimer := some (delay * 100) }
    if delay = 0 then d.startPulse n else d
  else if x.state = .hold ∧ x.causes.bankSwitch = true then
    (c.updCtx n fun x => { x with lagCount := 0 }).removeCause n .bankSwitch
  else c

/-- R106, R126: the Sequencer is told that the valve of a bank did not open. -/
def Controller.valveFailed (c : Controller) (n : Nozzle) (b : BankId) : Eff :=
  let x := c.ctx n
  if x.draws b = true ∧ ((x.state = .leakCheck ∧ x.phase = some .opening) ∨
      (x.state = .hold ∧ x.causes.bankSwitch = true)) then c.beginEnding n .valveTimeout
  else .of c

/-- R103: a report about a bank that is not the context's current bank clears release outstanding alone. -/
def Controller.clearOutstanding (c : Controller) (n : Nozzle) : Controller :=
  c.updCtx n fun x => { x with releaseOutstanding := false }

/-- R110: the bank of a fill in ENDING is settled. -/
def Controller.bankSettled (c : Controller) (n : Nozzle) : Controller :=
  (c.updCtx n fun x => { x with bankSettled := true }).settleEnding n

/-- R110, R125: the Sequencer is told that a release is complete. -/
def Controller.bankReleased (c : Controller) (n : Nozzle) (b : BankId) (pressure : Option Nat) : Eff :=
  if (c.ctx n).draws b then
    let d := c.dropBank n pressure
    match (c.ctx n).state with
    | .ending => .of (d.bankSettled n)
    | .hold => if (c.ctx n).causes.bankSwitch then d.switchOn n else .of d
    | _ => .of d
  else .of (c.clearOutstanding n)

/-- R109, R110, R127: the Sequencer is told that a bank is lost by isolation. -/
def Controller.bankLost (c : Controller) (n : Nozzle) (b : BankId) (pressure : Option Nat) : Eff :=
  if (c.ctx n).draws b then
    match (c.ctx n).state with
    | .leakCheck => (c.dropBank n pressure).beginEnding n .leakCheckInterrupted
    | .ramping | .hold => ((c.addCause n .bankSwitch).dropBank n pressure).switchOn n
    | .ending => .of ((c.dropBank n pressure).bankSettled n)
    | _ => .of (c.dropBank n pressure)
  else .of (c.clearOutstanding n)

/-- R103, R125: a bank request is answered STORAGE_LOW. -/
def Controller.storageLow (c : Controller) (n : Nozzle) : Eff :=
  match (c.ctx n).state with
  | .waitResources => c.closeWithoutFlow n .storageLow
  | .leakCheck | .ramping | .hold => c.beginEnding n .storageLow
  | .idle | .authorised | .connected | .ending | .complete => .of c

/-! ## Authorisation and connection (R95, R97 to R101) -/

/-- The tests of R95 on the request's own values (test 4). -/
def authoriseValues (moneyLimit customerClass priority : Nat) : Bool :=
  1 ≤ moneyLimit && moneyLimit ≤ 9999999 && customerClass ≤ 3 && priority ≤ 2

/-- R95 test 3: the states in which a nozzle may be authorised. -/
def Controller.mayAuthorise (c : Controller) (n : Nozzle) : Bool :=
  let x := c.ctx n
  let r := c.port (portOfNozzle n)
  (x.state == .idle || x.state == .connected) && !x.releaseOutstanding && r.service == .inService && r.link == .up

/-- R95: the code of the first test that an AUTHORISE of an existing nozzle fails after the first two; OK when it
passes. -/
def Controller.testAuthorise (c : Controller) (n : Nozzle) (moneyLimit customerClass priority : Nat) : Result :=
  if c.mayAuthorise n = false then .state
  else if authoriseValues moneyLimit customerClass priority = false then .argument
  else if 64 ≤ c.ring.heldCount then .ringFull
  else .ok

/-- R95: the vehicle class of a fill: the connected class, or the nozzle's configured class. -/
def Controller.fillClass (c : Controller) (n : Nozzle) : VehicleClass :=
  if (c.ctx n).state = .connected then (c.ctx n).vclass else c.store.settings.links.vehicleClass[n]

/-- R95: the authorisation a taken AUTHORISE stores: the mass limit clamped, the price snapshot, the sequence number. -/
def Controller.authorisation (c : Controller) (n : Nozzle) (moneyLimit massLimit customerClass priority : Nat) :
    Authorisation :=
  let v := c.fillClass n
  ⟨moneyLimit,
    if massLimit = 0 then none else some (min massLimit (c.store.settings.meter.classMaxMass.of v)),
    customerClass, priority, c.priceFor v customerClass, c.ring.nextSeq⟩

/-- R95, R138, R150: an AUTHORISE that passes its tests: the record, the fill limits, the context. -/
def Controller.authorise (c : Controller) (n : Nozzle) (a : Authorisation) : Eff :=
  let v := c.fillClass n
  let g := c.store.settings.meter
  let limits := fillLimits a.moneyLimit a.massLimit a.price (g.classMaxMass.of v) (g.vMin n)
  let d := (({ c with ring := c.ring.allocate (newRecord a.seq n v a c.store.clock) }).updMeter n fun m =>
    { m with limits := some limits, stopReported := false, stopReport := none }).updCtx n fun x => x.fresh v a
  if (c.ctx n).state = .connected then d.enterWait n
  else .of (d.updCtx n fun x => { x with
    state := .authorised, connectWait := some (c.store.settings.ramp.connectWait * 1000) })

/-- R94, R97: the connected flag and vehicle data present at a NOZZLE_CONNECT; with vehicle data present clear, the tank
temperature and the vehicle flags are held absent. -/
def Context.connect (x : Context) (data : Bool) : Context :=
  { x with
    connected := true, vehicleData := data
    tankTemp := if data then x.tankTemp else none, flags := if data then x.flags else none }

/-- R97: a NOZZLE_CONNECT. -/
def Controller.nozzleConnect (c : Controller) (n : Nozzle) (v : VehicleClass) (data : Bool) : Eff :=
  match (c.ctx n).state with
  | .idle => .of (c.updCtx n fun x => { x.connect data with vclass := v, state := .connected })
  | .authorised =>
    let d := c.updCtx n fun x => { x.connect data with connectWait := none }
    if (c.ctx n).vclass = v then d.enterWait n
    else (d.updCtx n fun x => { x with vclass := v }).closeWithoutFlow n .cancelled
  | .connected | .waitResources | .leakCheck | .ramping | .hold | .ending | .complete => .of c

/-- R98: the connect wait expires. -/
def Controller.connectWaitExpired (c : Controller) (n : Nozzle) : Eff :=
  if (c.ctx n).state = .authorised then c.closeWithoutFlow n .cancelled else .of c

/-- R104: the resource wait expires. -/
def Controller.resourceWaitExpired (c : Controller) (n : Nozzle) : Eff :=
  if (c.ctx n).state = .waitResources then c.closeWithoutFlow n .waitTimeout else .of c

/-- R99: whether a CANCEL finds a fill it may end. -/
def NozzleState.cancellable : NozzleState → Bool
  | .authorised | .waitResources | .leakCheck | .ramping | .hold => true
  | .idle | .connected | .ending | .complete => false

/-- R99: a CANCEL of a nozzle. -/
def Controller.cancel (c : Controller) (n : Nozzle) : Eff :=
  match (c.ctx n).state with
  | .authorised | .waitResources => c.closeWithoutFlow n .cancelled
  | .leakCheck | .ramping | .hold => c.beginEnding n .cancelled
  | .idle | .connected | .ending | .complete => .of c

/-- R100: a NOZZLE_HANG. -/
def Controller.nozzleHang (c : Controller) (n : Nozzle) : Eff :=
  let off := c.updCtx n fun x => { x with connected := false }
  match (c.ctx n).state with
  | .connected => .of (off.updCtx n fun x => { x with state := .idle })
  | .complete => .of (off.updCtx n fun x => { x with state := .idle, auth := none })
  | .waitResources => off.closeWithoutFlow n .cancelled
  | .leakCheck | .ramping | .hold => (off.updCtx n fun x => { x with hangSeen := true }).beginEnding n .nozzleHung
  | .ending => .of (off.updCtx n fun x => { x with hangSeen := true })
  | .idle | .authorised => .of c

/-- R101: a STOP_PRESS. -/
def Controller.stopPress (c : Controller) (n : Nozzle) : Eff :=
  match (c.ctx n).state with
  | .leakCheck | .ramping | .hold => c.beginEnding n .customerStop
  | .waitResources => c.closeWithoutFlow n .customerStop
  | .idle | .authorised | .connected | .ending | .complete => .of c

/-! ## Flow and vent confirmations (R105, R106, R111) -/

/-- R105: whether a FLOW_CONFIRM answers the flow order in flight. -/
def Context.flowMatches (x : Context) (tag generation state : Octet) : Bool :=
  match x.flowOrder with
  | some o => o.tag = tag && o.generation = generation && o.action.code = state
  | none => false

/-- R107: the settle window starts with its sensitive part, at a reference pressure; a sensitive portion as long as the
window lasts for all of it (log entry 38). -/
def Controller.startWindow (c : Controller) (n : Nozzle) (reference restarts : Nat) : Controller :=
  let r := c.store.settings.ramp
  c.updCtx n fun x => { x with
    phase := some .settle, reference := reference, restarts := restarts
    leakTimer := some (r.settleWindow * 100)
    sensitive := if r.sensitivePortion = 0 then .over
      else if r.settleWindow ≤ r.sensitivePortion then .whole else .left (r.sensitivePortion * 100) }

/-- R105, R106, R110: a matching FLOW_CONFIRM. -/
def Controller.flowConfirmed (c : Controller) (n : Nozzle) (action : Valve) : Controller :=
  let d := (c.updCtx n fun x => { x with flowOrder := none, flow := action }).driveFlow n
  let x := c.ctx n
  match x.state, x.phase, action with
  | .ending, _, _ => d.ventIfShut n
  | .leakCheck, some .pulse, .opened =>
    d.updCtx n fun x => { x with leakTimer := some (c.store.settings.ramp.pulseWidth * 100) }
  | .leakCheck, some .closing, .closed => d.startWindow n x.measured 0
  | _, _, _ => d

/-- R105, R110: the confirmation timer of a flow order expires. -/
def Controller.flowTimedOut (c : Controller) (n : Nozzle) : Eff :=
  let d := c.updCtx n fun x => { x with flowOrder := none }
  if (c.ctx n).state = .ending then .of (d.orderVent n) else d.endIfFlowing n .valveTimeout

/-- R110, R111: the vent is settled. -/
def Controller.ventSettled (c : Controller) (n : Nozzle) : Controller :=
  (c.updCtx n fun x => { x with ventOrder := none, ventSettled := true }).settleEnding n

/-- R111: a matching VENT_DONE, its final count metered before the vent is settled. -/
def Controller.ventDone (c : Controller) (n : Nozzle) (count : BitVec 16) : Controller :=
  ((c.updCtx n fun x => { x with ventOrder := none }).takeCount n count).ventSettled n

/-- R111: the vent timer expires. -/
def Controller.ventTimedOut (c : Controller) (n : Nozzle) : Controller :=
  (c.updRecordOf n fun r => { r with ventUnconfirmed := true }).ventSettled n

/-! ## The leak check (R106 to R109) -/

/-- R106: the pulse delay expires. -/
def Controller.pulseDelayExpired (c : Controller) (n : Nozzle) : Controller :=
  if (c.ctx n).phase = some .delay then c.startPulse n else c

/-- R106: the pulse width expires. -/
def Controller.pulseWidthExpired (c : Controller) (n : Nozzle) : Controller :=
  if (c.ctx n).phase = some .pulse then
    (c.updCtx n fun x => { x with phase := some .closing, leakTimer := none, wanted := .closed }).driveFlow n
  else c

/-- R107: the sensitive part of the settle window ends. -/
def Controller.sensitivePartEnded (c : Controller) (n : Nozzle) : Controller :=
  c.updCtx n fun x => { x with sensitive := match x.sensitive with | .left _ => .over | q => q }

/-- Whether a tank temperature is present and at or above 85.0 °C (R109, R121). -/
def Context.tankHot (x : Context) : Bool :=
  match x.tankTemp with
  | some t => 850 ≤ t
  | none => false

/-- Whether a vehicle flag is present. -/
def Context.flagged (x : Context) (f : VehicleFlags → Bool) : Bool :=
  match x.flags with
  | some v => f v
  | none => false

/-- R109: the end a FIELD_SAMPLE gives a fill in LEAK_CHECK: the first row in table order. -/
def Context.leakCheckEnd (x : Context) : Option EndReason :=
  if x.flagged VehicleFlags.abort then some .vehicleAbort
  else if x.flagged VehicleFlags.full then some .vehicleFull
  else if x.tankHot then some .tankHot
  else if classMaximum x.vclass < x.measured then some .overPressure
  else none

/-- R107: whether the latest pressure differs from the reference by more than the settle band, in either direction. -/
def Context.disturbed (x : Context) (band : Nat) : Bool :=
  x.reference + band < x.measured || x.measured + band < x.reference

/-- R107: the sample just stored is judged in SETTLE. -/
def Controller.judgeDisturbance (c : Controller) (n : Nozzle) : Eff :=
  let x := c.ctx n
  if x.phase = some .settle ∧ x.sensitive ≠ .over ∧ x.disturbed c.store.settings.ramp.settleBand = true then
    if x.restarts < 3 then .of (c.startWindow n x.measured (x.restarts + 1))
    else c.beginEnding n .leakCheckUnstable
  else .of c

/-- R108: the ramp entry a fill copies, with the precool class it belongs to. -/
def RampEntry.use (e : RampEntry) (k : PrecoolClass) : RampInUse := ⟨e.rate, e.pEnd, k, e.load⟩

/-- R108, R123: a fill takes a ramp entry: the entry in use, the target, and the record's rate and class. -/
def Controller.takeEntry (c : Controller) (n : Nozzle) (e : RampInUse) : Controller :=
  (c.updCtx n fun x => { x with entry := some e, target := some (min (x.measured * 1000) (e.pEnd * 1000)) }).updRecordOf
    n fun r => { r with rampRate := some e.rate, precoolClass := some e.precoolClass }

/-- R108: the leak-check fields at ramp start. -/
def Context.leaveLeakCheck (x : Context) : Context :=
  { x with
    phase := none, leakTimer := none, sensitive := .over, lagCount := 0, holdUsed := 0, holdTimer := restHold
    causes := noCauses }

/-- R108: the ramp of a fill that passed its leak check starts: in RAMPING on a permitted entry, else in HOLD with
PRECOOL_WARM; with PLANT_PAUSE too while the pause timer runs. -/
def Controller.startRamp (c : Controller) (n : Nozzle) : Controller :=
  let d := c.updCtx n Context.leaveLeakCheck
  let r := c.store.settings.ramp
  let k := c.thermal.precoolClass
  let begun := match r.permitted (c.ctx n).vclass ((c.ctx n).band.getD 7) k with
    | some e => (d.takeEntry n (e.use k)).updCtx n fun x => { x with
        state := .ramping, rampTimer := some r.stepTime }
    | none => d.updCtx n fun x => { x with
        state := .hold, causes := { noCauses with precoolWarm := true }
        holdTimer := { x.holdTimer with running := true } }
  if c.pauseTimer.isSome then begun.addCause n .plantPause else begun

/-- R108: the settle window ends. A fill whose vehicle sends no vehicle data may end VEHICLE_FULL here, by step 2 of R108,
though the last sentence of R94 says that it cannot (log entry 48). -/
def Controller.settleWindowEnded (c : Controller) (n : Nozzle) : Eff :=
  let x := c.ctx n
  let r := c.store.settings.ramp
  if x.phase ≠ some .settle then .of c
  else if x.measured + r.leakBand < x.reference then c.beginEnding n .leak
  else if r.judgedEnd x.vclass (x.band.getD 7) c.thermal.precoolClass ≤ x.measured + 1000 then
    c.beginEnding n .vehicleFull
  else .of (c.startRamp n)

/-! ## Field samples (R94, R121) -/

/-- R94: the parts of a FIELD_SAMPLE that the Sequencer stores. -/
def Context.storeSample (x : Context) (pressure : Nat) (gas : Int) (tank : Option Int) (flags : VehicleFlags) :
    Context :=
  { x with
    measured := pressure, gasTemp := some gas
    tankTemp := if x.vehicleData then tank else none
    flags := if x.vehicleData then some flags else none }

/-- R121, order 1: above the class maximum, or above P_end + 2,000 kPa of the entry in use. -/
def Context.overPressure (x : Context) : Bool :=
  classMaximum x.vclass < x.measured || (match x.entry with | some e => e.pEnd + 2000 < x.measured | none => false)

/-- R121, order 2: above the target in kPa plus the upper band. -/
def Context.overRamp (x : Context) (upperBand : Nat) : Bool :=
  match x.target with
  | some t => t / 1000 + upperBand < x.measured
  | none => false

/-- R121, order 6: at or above P_end of the entry in use. -/
def Context.atTarget (x : Context) : Bool :=
  match x.entry with
  | some e => e.pEnd ≤ x.measured
  | none => false

/-- R121: the end a FIELD_SAMPLE gives a fill in RAMPING or HOLD: the first condition in table order. The parts that
name P_end or the target are skipped without an entry or a target (log entry 13). -/
def Context.rampEnd (x : Context) (upperBand : Nat) : Option EndReason :=
  if x.overPressure then some .overPressure
  else if x.overRamp upperBand then some .overRamp
  else if x.tankHot then some .tankHot
  else if x.flagged VehicleFlags.abort then some .vehicleAbort
  else if x.flagged VehicleFlags.full then some .vehicleFull
  else if x.atTarget then some .targetReached
  else none

/-- R94: the sample just stored is judged according to the state; in LEAK_CHECK the ends of R109 before the
disturbance of R107 (log entry 20). -/
def Controller.judgeSample (c : Controller) (n : Nozzle) : Eff :=
  let x := c.ctx n
  match x.state with
  | .leakCheck =>
    match x.leakCheckEnd with
    | some why => c.beginEnding n why
    | none => c.judgeDisturbance n
  | .ramping | .hold =>
    match x.rampEnd c.store.settings.ramp.upperBand with
    | some why => c.beginEnding n why
    | none => .of c
  | .idle | .authorised | .connected | .waitResources | .ending | .complete => .of c

/-! ## Meter reports (R109, R122, R135, R139) -/

/-- The end reason of a limit kind (R139). -/
def LimitKind.reason : LimitKind → EndReason
  | .money => .moneyLimit
  | .mass => .massLimit

/-- R139: the stop threshold report reaches the context. -/
def Controller.takeStopReport (c : Controller) (n : Nozzle) : Eff :=
  match (c.meter n).stopReport with
  | some k => (c.updMeter n fun m => { m with stopReport := none }).endIfFlowing n k.reason
  | none => .of c

/-- R135: the meter fault report reaches the context. -/
def Controller.takeFaultReport (c : Controller) (n : Nozzle) : Eff :=
  if (c.meter n).faultReport then
    (c.updMeter n fun m => { m with faultReport := false }).endIfFlowing n .meterFault
  else .of c

/-- Whether a meter report waits for its nozzle's context. -/
def Meter.reports (m : Meter) : Bool := m.stopReport.isSome || m.faultReport

/-- R94, R122, R134: a FIELD_SAMPLE: the Sequencer's part is stored, the count metered, and the sample judged. A report
that the count makes is taken before the judgement or waits, as the free value gives (log entry 7); where a stop
report and a fault report of different samples both wait, the stop report is taken first (log entry 46). -/
def Controller.fieldSample (c : Controller) (n : Nozzle) (pressure : Nat) (gas : Int) (tank : Option Int)
    (flags : VehicleFlags) (count : BitVec 16) : Eff :=
  let d := (c.updCtx n fun x => x.storeSample pressure gas tank flags).takeCount n count
  if (d.meter n).reports ∧ (d.ctx n).state.flowing = true then
    let e := { d with freeCount := d.freeCount + 1 }
    if Config.reportTakenFirst d.freeCount then
      ((e.takeStopReport n).andThen fun f => f.takeFaultReport n).andThen fun f => f.judgeSample n
    else e.judgeSample n
  else d.judgeSample n

/-! ## The ramp (R118 to R120, R125, R129) -/

/-- R125: a bank switch begins. -/
def Controller.beginSwitch (c : Controller) (n : Nozzle) : Controller :=
  let d := c.addCause n .bankSwitch
  match (d.ctx n).currentBank with
  | some b => d.releaseBank b.bank (.nozzle n)
  | none => d

/-- R119 part 1: the target after a step. -/
def stepTarget (target rate stepTime pEnd : Nat) : Nat := min (target + rate * stepTime) (pEnd * 1000)

/-- R119 part 3: the lag count after a step whose target in kPa is `kPa`. -/
def stepLag (lag measured kPa switchBand : Nat) : Nat := if measured + switchBand < kPa then lag + 1 else 0

/-- R119: a ramp step; the FLOW order it calls for is handed after its lag part (log entry 33). -/
def Controller.rampStep (c : Controller) (n : Nozzle) : Controller :=
  let x := c.ctx n
  let r := c.store.settings.ramp
  match x.state, x.entry, x.target with
  | .ramping, some e, some t =>
    let target := stepTarget t e.rate r.stepTime e.pEnd
    let lag := stepLag x.lagCount x.measured (target / 1000) r.switchBand
    let stepped := c.updCtx n fun x => { x with
      target := some target, lagCount := lag, rampTimer := some r.stepTime
      wanted := if x.measured < target / 1000 then .opened else .closed }
    if r.lagCount ≤ lag then stepped.beginSwitch n else stepped.driveFlow n
  | _, _, _ => c

/-- R129: a hold accounting period is completed. -/
def Controller.holdPeriodExpired (c : Controller) (n : Nozzle) : Eff :=
  let x := c.ctx n
  if x.state = .hold then
    let counted := c.updCtx n fun x => { x with holdUsed := x.holdUsed + 1, holdTimer := ⟨true, 1000⟩ }
    if c.store.settings.ramp.holdLimit ≤ x.holdUsed + 1 then counted.beginEnding n .holdTimeout else .of counted
  else .of c

/-- R113: the progress timer expires. -/
def Controller.progressExpired (c : Controller) (n : Nozzle) : Controller :=
  match c.recordOf n with
  | some r =>
    (c.notice (portOfNozzle n) 0x61
      (fillProgressBody n r.seq (c.ctx n) r.metered (c.runningCharge n))).updCtx n fun x =>
        { x with progressTimer := some 1000 }
  | none => c.updCtx n fun x => { x with progressTimer := some 1000 }

/-! ## Precool class changes (R123) -/

/-- R123: the entry in use of a fill that degrades: rate and class of the new entry, the lesser P_end, the load kept. -/
def RampInUse.degrade (e : RampInUse) (new : RampEntry) (k : PrecoolClass) : RampInUse :=
  ⟨new.rate, min e.pEnd new.pEnd, k, e.load⟩

/-- R123: a fill degrades to an entry. -/
def Controller.degrade (c : Controller) (n : Nozzle) (e : RampInUse) : Controller :=
  (c.updCtx n fun x => { x with
    entry := some e, target := x.target.map fun t => min t (e.pEnd * 1000) }).updRecordOf n fun r =>
      { r with rampRate := some e.rate, precoolClass := some e.precoolClass, degraded := true }

/-- R123: a class change report reaches one fill. -/
def Controller.takeClass (c : Controller) (new : PrecoolClass) (n : Nozzle) : Controller :=
  let x := c.ctx n
  let offered := c.store.settings.ramp.permitted x.vclass (x.band.getD 7) new
  if x.state = .ramping ∨ x.state = .hold then
    match x.entry, offered with
    | some e, some r =>
      if new.warmth ≤ e.precoolClass.warmth then c.removeCause n .precoolWarm
      else (c.degrade n (e.degrade r new)).removeCause n .precoolWarm
    | some e, none =>
      if new.warmth ≤ e.precoolClass.warmth then c.removeCause n .precoolWarm else c.addCause n .precoolWarm
    | none, some r => (c.takeEntry n (r.use new)).removeCause n .precoolWarm
    | none, none => c
  else c

/-- R123: a class change report reaches every context. -/
def Controller.classChanged (c : Controller) (new : PrecoolClass) : Controller :=
  allNozzles.foldl (fun d n => d.takeClass new n) c

/-! ## The plant pause (R130, R131) -/

/-- The pause time remaining, in whole seconds (R130). -/
def Controller.pauseLeft (c : Controller) : Nat :=
  match c.pauseTimer with
  | some ms => (ms + 999) / 1000
  | none => 0

/-- R131: the pause ends, and PLANT_PAUSE leaves every fill that holds it, one in ENDING among them (log entry 27). -/
def Controller.endPause (c : Controller) : Controller :=
  allNozzles.foldl (fun d n => if (d.ctx n).state.holdsRecord then d.removeCause n .plantPause else d)
    { c with pauseTimer := none }

/-- R130: a PAUSE_FILLS with a pause time in seconds. -/
def Controller.pauseFills (c : Controller) (seconds : Nat) : Controller :=
  let v := min seconds 600
  match c.pauseTimer with
  | none =>
    if v = 0 then c
    else allNozzles.foldl (fun d n => d.addCause n .plantPause) { c with pauseTimer := some (v * 1000) }
  | some _ => if v = 0 then c.endPause else { c with pauseTimer := some (v * 1000) }

/-! ## Losses (R114, R115) -/

/-- R114: the fields of a context that holds the gas path, at the loss of its dispenser port; its leak check is over (log
entry 26). -/
def Context.cutOff (x : Context) : Context :=
  { x with
    flowOrder := none, ventOrder := none, phase := none, leakTimer := none, sensitive := .over, rampTimer := none
    progressTimer := none, connectWait := none, resourceWait := none
    holdTimer := { x.holdTimer with running := false } }

/-- R114: the record of a fill at the loss of its dispenser port, before its close. -/
def Record.cutOff (r : Record) (measured : Nat) : Record :=
  { r with
    endPressure := if r.flowStart.isSome ∧ r.endPressure = none then some measured else r.endPressure
    ventUnconfirmed := true }

/-- R114: the bank of a fill is given back at the loss of its dispenser port. -/
def Controller.cutBank (c : Controller) (n : Nozzle) : Controller :=
  match (c.ctx n).currentBank with
  | some b =>
    ((c.releaseBank b.bank (.nozzle n)).dropBank n (c.bank b.bank).pressure).updCtx n fun x =>
      { x with releaseOutstanding := true }
  | none => c

/-- The connected flag and the authorisation cleared; the context IDLE (R114). -/
def Context.toIdle (x : Context) : Context := { x with state := .idle, connected := false, auth := none }

/-- R114: the loss of a nozzle's dispenser port. The grant pass of the fill's precool release (R52) runs after its bank
release, its close and its FILL_ENDED (log entry 44). -/
def Controller.dispenserLost (c : Controller) (n : Nozzle) : Eff :=
  let x := c.ctx n
  match x.state with
  | .idle => .of c
  | .connected | .complete => .of (c.updCtx n Context.toIdle)
  | .authorised | .waitResources =>
    (c.updCtx n fun x => { x with connected := false }).closeWithoutFlow n .dispenserLink
  | .leakCheck | .ramping | .hold | .ending =>
    let reasoned := if x.state = .ending then c else c.setReason n .dispenserLink
    let cut := (reasoned.updCtx n Context.cutOff).updRecordOf n fun r => r.cutOff x.measured
    (cut.precoolRelease n).change fun d => ((d.cutBank n).closeFill n).updCtx n Context.toIdle

/-- R115, R131: release outstanding cleared, and PLANT_PAUSE removed from a fill, whatever becomes of it. -/
def Context.losePlant (x : Context) : Context :=
  { x with
    releaseOutstanding := false
    causes := if x.state.holdsRecord then x.causes.put .plantPause false else x.causes }

/-- R115: the loss of the plant port reaches one context. -/
def Controller.plantLostFor (c : Controller) (n : Nozzle) : Eff :=
  let d := c.updCtx n Context.losePlant
  match (c.ctx n).state with
  | .authorised | .waitResources => d.closeWithoutFlow n .plantLink
  | .leakCheck | .ramping | .hold => (d.forgetBank n).beginEnding n .plantLink
  | .ending => .of ((d.forgetBank n).bankSettled n)
  | .idle | .connected | .complete => .of d

/-- R115: the loss of the plant port reaches every context of a list, the nozzles taken from 1 to 6 (log entry 42). -/
def Controller.plantLostForAll (c : Controller) : List Nozzle → Eff
  | [] => .of c
  | n :: l => (c.plantLostFor n).andThen fun d => d.plantLostForAll l

/-- R115, R131: the loss of the plant port reaches the Sequencer: every context, and the pause timer stops. -/
def Controller.sequencerPlantLoss (c : Controller) : Eff :=
  (c.plantLostForAll allNozzles).change fun d => { d with pauseTimer := none }

end Sys2Proof.Machine
end

