-- ==== Sys2Proof/Machine/Store.lean ====
section
/-! DEFINITION. Chapter 2: the settings groups and their entries, the tests and the taking of a WRITE_SETTINGS, and the
hand-over of a written setting to its owner, as operations of the Settings and Retained Store. -/

namespace Sys2Proof.Machine

/-! ## Locks -/

/-- The group lock of a group (R18). -/
def Locks.of (l : Locks) : Group → Bool
  | .banks => l.banks
  | .ramp => l.ramp
  | .precool => l.precool
  | .ambient => l.ambient
  | .meter => l.meter
  | .tariffAccess => l.tariffAccess
  | .links => l.links

/-- A group lock set (true) or cleared (false) (R22). -/
def Locks.put (l : Locks) (g : Group) (v : Bool) : Locks :=
  match g with
  | .banks => { l with banks := v }
  | .ramp => { l with ramp := v }
  | .precool => { l with precool := v }
  | .ambient => { l with ambient := v }
  | .meter => { l with meter := v }
  | .tariffAccess => { l with tariffAccess := v }
  | .links => { l with links := v }

/-- What the settings CRC is computed over (R18). -/
def Store.image (s : Store) : SettingsImage := ⟨s.settings, s.locks, s.metrologyLock⟩

/-- The settings CRC recomputed over the contents in force (R20, R22, R23, R30). -/
def Store.sealed (s : Store) : Store := { s with settingsCrc := some s.image }

/-- R22: a group lock written. -/
def Store.putLock (s : Store) (g : Group) (v : Bool) : Store := ({ s with locks := s.locks.put g v }).sealed

/-- R23: the metrology lock set. -/
def Store.lockMetrology (s : Store) : Store := ({ s with metrologyLock := true }).sealed

/-! ## Entry identifiers (section 12.2) -/

/-- A tier by its place: LOW, MID, HIGH. -/
def tierAt : Nat → Tier
  | 0 => .low | 1 => .mid | _ => .high

/-- The BANKS entry of a low octet. -/
def banksKey (k : Nat) : Option SettingKey :=
  if k = 0 then some .bankCount
  else if k < 13 then some (.bankTier (Fin.ofNat 12 (k - 1)))
  else if k < 16 then some (.startThreshold (tierAt (k - 13)))
  else if k < 19 then some (.stopThreshold (tierAt (k - 16)))
  else if k < 22 then some (.tierMaximum (tierAt (k - 19)))
  else if k = 22 then some .differential
  else if k = 23 then some .preemptEnable
  else if k = 24 then some .preemptMinimum
  else none

/-- The RAMP entry of a low octet: 48 table entries of R, P_end and load, then the other entries of R18. -/
def rampKey (k : Nat) : Option SettingKey :=
  if k < 144 then
    let i := Fin.ofNat 48 (k / 3)
    some (match k % 3 with | 0 => .rampRate i | 1 => .rampEnd i | _ => .rampLoad i)
  else match k - 144 with
    | 0 => some .rampStep
    | 1 => some .switchBand
    | 2 => some .upperBand
    | 3 => some .lagCount
    | 4 => some .pulseDelay
    | 5 => some .pulseWidth
    | 6 => some .settleWindow
    | 7 => some .sensitivePortion
    | 8 => some .settleBand
    | 9 => some .leakBand
    | 10 => some .holdLimit
    | 11 => some .connectWait
    | 12 => some .resourceWait
    | 13 => some .orderTimeout
    | _ => none

/-- The METER entry of a low octet: K and Qmax of the nozzles, the vent tables nozzle by nozzle, the class maxima. -/
def meterKey (k : Nat) : Option SettingKey :=
  if k < 6 then some (.kFactor (Fin.ofNat 6 k))
  else if k < 12 then some (.maxPulses (Fin.ofNat 6 (k - 6)))
  else if k < 60 then some (.ventCorrection (Fin.ofNat 6 ((k - 12) / 8)) (Fin.ofNat 8 ((k - 12) % 8)))
  else if k = 60 then some (.classMaxMass .lp)
  else if k = 61 then some (.classMaxMass .hp)
  else none

/-- The LINKS entry of a low octet. -/
def linksKey (k : Nat) : Option SettingKey :=
  if k < 6 then some (.serviceFlag (Fin.ofNat 6 k))
  else if k < 12 then some (.configuredClass (Fin.ofNat 6 (k - 6)))
  else if k = 12 then some .pacingInterval
  else none

/-- The entry of a group that a low octet numbers. -/
def keyIn (g : Group) (k : Nat) : Option SettingKey :=
  match g with
  | .banks => banksKey k
  | .ramp => rampKey k
  | .precool => if k = 0 then some .nominalCapacity else if k = 1 then some .compressorLoad else none
  | .ambient => if k = 0 then some .reductionMode else if k < 8 then some (.bandEdge (Fin.ofNat 7 (k - 1))) else none
  | .meter => meterKey k
  | .tariffAccess => none
  | .links => linksKey k

/-- The entry an identifier names in a group: its high octet is the group's code, its low octet the entry's number. -/
def keyFor (g : Group) (ident : BitVec 16) : Option SettingKey :=
  if groupOf (BitVec.ofNat 8 (ident.toNat / 256)) = some g then keyIn g (ident.toNat % 256) else none

/-! ## Ranges, values carried and values held -/

/-- Whether a carried value lies within its entry's range (test 4 of R19; R32, R47, R85, R95, R102, R106, R117, R133,
R18; the three stored values by R162). -/
def SettingKey.admits (k : SettingKey) (value : BitVec 32) : Bool :=
  let v := value.toNat
  match k with
  | .bankCount => v ≤ 11
  | .bankTier _ => 1 ≤ v && v ≤ 3
  | .startThreshold _ | .stopThreshold _ | .tierMaximum _ => v ≤ 120000
  | .differential => v ≤ 10000
  | .preemptEnable => v ≤ 1
  | .preemptMinimum => v ≤ 2
  | .rampRate _ => v ≤ 1000
  | .rampEnd _ => v ≤ 120000
  | .rampLoad _ => 1 ≤ v && v ≤ 255
  | .rampStep => v ≤ 9
  | .switchBand => 500 ≤ v && v ≤ 20000
  | .upperBand => 1000 ≤ v && v ≤ 20000
  | .lagCount => v ≤ 15
  | .pulseDelay => v ≤ 25
  | .pulseWidth => 1 ≤ v && v ≤ 50
  | .settleWindow => 10 ≤ v && v ≤ 300
  | .sensitivePortion => v ≤ 300
  | .settleBand => 50 ≤ v && v ≤ 5000
  | .leakBand => 50 ≤ v && v ≤ 10000
  | .holdLimit => 30 ≤ v && v ≤ 300
  | .connectWait => 30 ≤ v && v ≤ 600
  | .resourceWait => 30 ≤ v && v ≤ 600
  | .orderTimeout => 5 ≤ v && v ≤ 50
  | .nominalCapacity => v ≤ 255
  | .compressorLoad => v ≤ 255
  | .reductionMode => 1 ≤ v && v ≤ 3
  | .bandEdge _ => -500 ≤ value.toInt && value.toInt ≤ 700
  | .kFactor _ => 1 ≤ v && v ≤ 65535
  | .maxPulses _ => 1 ≤ v && v ≤ 4096
  | .ventCorrection _ _ => v ≤ 65535
  | .classMaxMass _ => 1 ≤ v && v ≤ 10000000
  | .serviceFlag _ => v ≤ 1
  | .configuredClass _ => 1 ≤ v && v ≤ 2
  | .pacingInterval => 5 ≤ v && v ≤ 50

/-- A tier by its code (section 12.3). -/
def tierOfCode (v : Nat) : Tier := tierAt (v - 1)

/-- A vehicle class by its code. -/
def classOfCode (v : Nat) : VehicleClass := if v = 2 then .hp else .lp

/-- A reduction mode by its code (section 12.2). -/
def modeOfCode (v : Nat) : ReductionMode := if v = 1 then .weighted else if v = 2 then .equal else .primary

/-- The value of a tier changed. -/
def PerTier.put (x : PerTier) (t : Tier) (v : Nat) : PerTier :=
  match t with
  | .low => { x with low := v }
  | .mid => { x with mid := v }
  | .high => { x with high := v }

/-- The value of a class changed. -/
def PerClass.put (x : PerClass) (k : VehicleClass) (v : Nat) : PerClass :=
  match k with
  | .lp => { x with lp := v }
  | .hp => { x with hp := v }

/-- The vehicle class of a ramp table place: the LP entries stand first (section 12.2). -/
def classOfSlot (i : Fin 48) : VehicleClass := if i.val < 24 then .lp else .hp

/-- R20: one entry takes its new value; a P_end above its class maximum is stored as that maximum, and the three
stored values become actual values (R162). -/
def Settings.write (s : Settings) (k : SettingKey) (value : BitVec 32) : Settings :=
  let v := value.toNat
  let r := s.ramp
  match k with
  | .bankCount => { s with banks := { s.banks with count := v + 1 } }
  | .bankTier b => { s with banks := { s.banks with tiers := s.banks.tiers.set b (tierOfCode v) } }
  | .startThreshold t => { s with banks := { s.banks with startThreshold := s.banks.startThreshold.put t v } }
  | .stopThreshold t => { s with banks := { s.banks with stopThreshold := s.banks.stopThreshold.put t v } }
  | .tierMaximum t => { s with banks := { s.banks with tierMaximum := s.banks.tierMaximum.put t v } }
  | .differential => { s with banks := { s.banks with differential := v } }
  | .preemptEnable => { s with banks := { s.banks with preemptEnable := v == 1 } }
  | .preemptMinimum => { s with banks := { s.banks with preemptMinimum := v } }
  | .rampRate i => { s with ramp := { r with table := r.table.set i { r.table[i] with rate := v } } }
  | .rampEnd i =>
    let e := { r.table[i] with pEnd := min v (classMaximum (classOfSlot i)) }
    { s with ramp := { r with table := r.table.set i e } }
  | .rampLoad i => { s with ramp := { r with table := r.table.set i { r.table[i] with load := v } } }
  | .rampStep => { s with ramp := { r with step := v + 1 } }
  | .switchBand => { s with ramp := { r with switchBand := v } }
  | .upperBand => { s with ramp := { r with upperBand := v } }
  | .lagCount => { s with ramp := { r with lagCount := v + 1 } }
  | .pulseDelay => { s with ramp := { r with pulseDelay := v } }
  | .pulseWidth => { s with ramp := { r with pulseWidth := v } }
  | .settleWindow => { s with ramp := { r with settleWindow := v } }
  | .sensitivePortion => { s with ramp := { r with sensitivePortion := v } }
  | .settleBand => { s with ramp := { r with settleBand := v } }
  | .leakBand => { s with ramp := { r with leakBand := v } }
  | .holdLimit => { s with ramp := { r with holdLimit := v } }
  | .connectWait => { s with ramp := { r with connectWait := v } }
  | .resourceWait => { s with ramp := { r with resourceWait := v } }
  | .orderTimeout => { s with ramp := { r with orderTimeout := v } }
  | .nominalCapacity => { s with precool := { s.precool with nominal := v } }
  | .compressorLoad => { s with precool := { s.precool with compressorLoad := v } }
  | .reductionMode => { s with ambient := { s.ambient with mode := modeOfCode v } }
  | .bandEdge i => { s with ambient := { s.ambient with edges := s.ambient.edges.set i value.toInt } }
  | .kFactor n => { s with meter := { s.meter with kFactor := s.meter.kFactor.set n v } }
  | .maxPulses n => { s with meter := { s.meter with maxPulses := s.meter.maxPulses.set n v } }
  | .ventCorrection n i => { s with meter := { s.meter with vent := s.meter.vent.set n (s.meter.vent[n].set i v) } }
  | .classMaxMass k => { s with meter := { s.meter with classMaxMass := s.meter.classMaxMass.put k v } }
  | .serviceFlag n =>
    let flag := if v = 1 then .unused else .inService
    { s with links := { s.links with service := s.links.service.set n flag } }
  | .configuredClass n =>
    { s with links := { s.links with vehicleClass := s.links.vehicleClass.set n (classOfCode v) } }
  | .pacingInterval => { s with links := { s.links with pacing := v } }

/-- The value of an entry as WRITE_SETTINGS carries it (section 12.2, R162). -/
def Settings.carried (s : Settings) (k : SettingKey) : BitVec 32 :=
  match k with
  | .bankCount => BitVec.ofNat 32 (s.banks.count - 1)
  | .bankTier b => BitVec.ofNat 32 (s.banks.tiers[b]).code.toNat
  | .startThreshold t => BitVec.ofNat 32 (s.banks.startThreshold.of t)
  | .stopThreshold t => BitVec.ofNat 32 (s.banks.stopThreshold.of t)
  | .tierMaximum t => BitVec.ofNat 32 (s.banks.tierMaximum.of t)
  | .differential => BitVec.ofNat 32 s.banks.differential
  | .preemptEnable => if s.banks.preemptEnable then 1 else 0
  | .preemptMinimum => BitVec.ofNat 32 s.banks.preemptMinimum
  | .rampRate i => BitVec.ofNat 32 s.ramp.table[i].rate
  | .rampEnd i => BitVec.ofNat 32 s.ramp.table[i].pEnd
  | .rampLoad i => BitVec.ofNat 32 s.ramp.table[i].load
  | .rampStep => BitVec.ofNat 32 (s.ramp.step - 1)
  | .switchBand => BitVec.ofNat 32 s.ramp.switchBand
  | .upperBand => BitVec.ofNat 32 s.ramp.upperBand
  | .lagCount => BitVec.ofNat 32 (s.ramp.lagCount - 1)
  | .pulseDelay => BitVec.ofNat 32 s.ramp.pulseDelay
  | .pulseWidth => BitVec.ofNat 32 s.ramp.pulseWidth
  | .settleWindow => BitVec.ofNat 32 s.ramp.settleWindow
  | .sensitivePortion => BitVec.ofNat 32 s.ramp.sensitivePortion
  | .settleBand => BitVec.ofNat 32 s.ramp.settleBand
  | .leakBand => BitVec.ofNat 32 s.ramp.leakBand
  | .holdLimit => BitVec.ofNat 32 s.ramp.holdLimit
  | .connectWait => BitVec.ofNat 32 s.ramp.connectWait
  | .resourceWait => BitVec.ofNat 32 s.ramp.resourceWait
  | .orderTimeout => BitVec.ofNat 32 s.ramp.orderTimeout
  | .nominalCapacity => BitVec.ofNat 32 s.precool.nominal
  | .compressorLoad => BitVec.ofNat 32 s.precool.compressorLoad
  | .reductionMode => match s.ambient.mode with | .weighted => 1 | .equal => 2 | .primary => 3
  | .bandEdge i => BitVec.ofInt 32 s.ambient.edges[i]
  | .kFactor n => BitVec.ofNat 32 s.meter.kFactor[n]
  | .maxPulses n => BitVec.ofNat 32 s.meter.maxPulses[n]
  | .ventCorrection n i => BitVec.ofNat 32 (s.meter.vent[n])[i]
  | .classMaxMass k => BitVec.ofNat 32 (s.meter.classMaxMass.of k)
  | .serviceFlag n => match s.links.service[n] with | .inService => 0 | .unused => 1
  | .configuredClass n => BitVec.ofNat 32 (s.links.vehicleClass[n]).code.toNat
  | .pacingInterval => BitVec.ofNat 32 s.links.pacing

/-! ## Testing and taking a WRITE_SETTINGS (R19 to R21) -/

/-- The occurrences a request uses: of entries with one identifier, the last (R19). -/
def lastOccurrences : List SettingEntry → List SettingEntry
  | [] => []
  | e :: l => if l.any fun u => u.ident == e.ident then lastOccurrences l else e :: lastOccurrences l

/-- The settings after all entries are applied; an entry outside the group changes nothing. -/
def Settings.writeAll (s : Settings) (g : Group) (l : List SettingEntry) : Settings :=
  l.foldl (fun s e => match keyFor g e.ident with | some k => s.write k e.value | none => s) s

/-- Whether numbers strictly increase. -/
def strictlyRising : List Int → Bool
  | x :: y :: l => x < y && strictlyRising (y :: l)
  | _ => true

/-- Whether numbers never fall. -/
def neverFalling : List Nat → Bool
  | x :: y :: l => x ≤ y && neverFalling (y :: l)
  | _ => true

/-- Test 5 of R19: the band edges strictly increase and no vent table falls. -/
def Settings.consistent (s : Settings) : Bool :=
  strictlyRising s.ambient.edges.toList && s.meter.vent.toList.all fun t => neverFalling t.toList

/-- Test 4 of R19 for one entry: it belongs to the group, its value is in range, and a bank tier names a bank within
the bank count in force after the write (R21). -/
def entryAdmitted (g : Group) (after : Settings) (e : SettingEntry) : Bool :=
  match keyFor g e.ident with
  | some k => k.admits e.value && (match k with | .bankTier b => b.val < after.banks.count | _ => true)
  | none => false

/-- Whether a bank is DRAWING or REFILLING. -/
def BankState.inUse (s : BankState) : Bool := s == .drawing || s == .refilling

/-- R21 for one entry: the states that refuse it. -/
def Controller.stateRefuses (c : Controller) (after : Settings) (k : SettingKey) : Bool :=
  let before := c.store.settings
  match k with
  | .bankTier b => after.banks.tiers[b] ≠ before.banks.tiers[b] && (c.bank b).state.inUse
  | .bankCount =>
    after.banks.count ≠ before.banks.count && allBanks.any fun b => c.configured b && (c.bank b).state.inUse
  | .serviceFlag n => after.links.service[n] = .unused && (c.ctx n).state ≠ .idle
  | _ => false

/-- The entries of a list that name an entry of the group. -/
def keysOf (g : Group) (l : List SettingEntry) : List SettingKey := l.filterMap fun e => keyFor g e.ident

/-- R19: the code of the first test that a WRITE_SETTINGS fails, OK when it passes all six. -/
def Controller.testWrite (c : Controller) (code : Octet) (entries : List SettingEntry) : Result :=
  match groupOf code with
  | none => .argument
  | some g =>
    let used := lastOccurrences entries
    let after := c.store.settings.writeAll g used
    if g = .tariffAccess then .argument
    else if c.store.locks.of g then .locked
    else if g = .meter ∧ c.store.metrologyLock = true then .locked
    else if !(used.all (entryAdmitted g after)) then .argument
    else if !after.consistent then .argument
    else if (keysOf g used).any (c.stateRefuses after) then .state
    else .ok

/-- R32: what a written entry changes in the bank table at once: the tier of a record, or the records that the bank
count removes and adds. The generations stay. -/
def Controller.recordWrite (c : Controller) (k : SettingKey) : Controller :=
  let s := c.store.settings.banks
  match k with
  | .bankTier b => c.updBank b fun r => { r with tier := s.tiers[b] }
  | .bankCount => { c with alloc := { c.alloc with
      bankCount := s.count
      banks := Vector.ofFn fun b =>
        if b.val < s.count ∧ b.val < c.alloc.bankCount then c.alloc.banks[b]
        else restBank s.tiers[b] c.alloc.banks[b].generation } }
  | _ => c

/-- Whether an entry is handed to the Scheduler with the other bank entries of its write (R20, R32). -/
def SettingKey.ofTable : SettingKey → Bool
  | .bankCount | .bankTier _ => true
  | _ => false

/-- Whether the hand-over of an entry, alone, has consequences beyond storing its value (R20). -/
def SettingKey.handedOn : SettingKey → Bool
  | .nominalCapacity | .serviceFlag _ => true
  | _ => false

/-- R21, R32: the banks whose tiers a write changes; an entry that repeats a tier is no change. -/
def movedBanks (before after : Settings) (keys : List SettingKey) : List BankId :=
  keys.filterMap fun k => match k with
    | .bankTier b => if after.banks.tiers[b] ≠ before.banks.tiers[b] then some b else none
    | _ => none

/-- R20: the hand-overs of a write, in the order of the last occurrences in the request; its bank entries go to the
Scheduler together (log entry 28). -/
def handOvers (before after : Settings) (keys : List SettingKey) : List Event :=
  (if keys.any SettingKey.ofTable then [.banksHandedOver (movedBanks before after keys)] else []) ++
    (keys.filter SettingKey.handedOn).map Event.handOver

/-- R20, R32: a WRITE_SETTINGS that passed its tests: the entries, the settings CRC, the bank table at once, and the
hand-overs that wait. -/
def Controller.takeWrite (c : Controller) (g : Group) (entries : List SettingEntry) : Eff :=
  let used := lastOccurrences entries
  let after := c.store.settings.writeAll g used
  let stored := { c with store := ({ c.store with settings := after }).sealed }
  ⟨(keysOf g used).foldl Controller.recordWrite stored, handOvers c.store.settings after (keysOf g used)⟩

/-- The answer body of a WRITE_SETTINGS: each entry of the request with the value now held, as carried (section 12.2;
log entry 12). -/
def writtenBody (g : Group) (s : Settings) (entries : List SettingEntry) : List Octet :=
  entries.flatMap fun e => octets 2 e.ident.toNat ++
    octets 4 (match keyFor g e.ident with | some k => (s.carried k).toNat | none => 0)

/-! ## The hand-over of bank entries to the Scheduler (R32, R67) -/

/-- R67, R66: the bank entries of a write are handed over: the removed banks leave the refill queue, and the queued
banks of changed tiers leave and then join again, each at the tail of its tier's part (log entry 28). A pending claim
for a bank that leaves is withdrawn (log entry 34). A start attempt follows a withdrawal, and a join in STOPPED. -/
def Controller.takeBanks (c : Controller) (moved : List BankId) : Eff :=
  let rejoin := moved.filter fun b => c.configured b && c.sched.queue.contains b
  let leaves := fun b => !c.configured b || rejoin.contains b
  let queue := rejoin.foldl (fun q b => joinQueue (fun u => (c.bank u).tier) b q)
    (c.sched.queue.filter fun b => !leaves b)
  let d := c.updSched fun s => { s with queue := queue }
  if d.sched.claimPending.any leaves then
    ⟨d.withdrawClaim.updSched fun s => { s with state := .stopped }, [.startAttempt]⟩
  else ⟨d, if d.sched.state = .stopped ∧ rejoin ≠ [] then [.startAttempt] else []⟩

/-! ## The clock (R24, R25) -/

/-- R24: the station clock advances by one second. -/
def Store.second (s : Store) : Store := { s with clock := s.clock + 1 }

/-- R25: the clock takes a value and the clock-set flag is set. -/
def Store.setClock (s : Store) (v : BitVec 32) : Store := { s with clock := v, clockSet := true }

end Sys2Proof.Machine
end

