-- ==== Sys2Proof/Machine/Links.lean ====
section
/-! DEFINITION. Chapter 1: receiving octets and telegrams, the inbound queue, a port going DOWN, HELLO and STATUS, as
operations of the Link Interface. The outbound side is in Ops.lean. -/

namespace Sys2Proof.Machine

/-! ## Receiving (R3, R4, R9) -/

/-- The start octet. -/
def startOctet : Octet := 0x7E

/-- The gap time in milliseconds (R3). -/
def gapTime : Nat := 2

/-- The link time in milliseconds (R6). -/
def linkTime : Nat := 3000

/-- The receive assembly emptied, its gap timer stopped. -/
def PortRec.dropAssembly (r : PortRec) : PortRec := { r with assembly := [], gapTimer := none }

/-- R3: an octet joins the assembly and restarts the gap timer. -/
def PortRec.join (r : PortRec) (o : Octet) : PortRec :=
  { r with assembly := r.assembly ++ [o], gapTimer := some gapTime }

/-- R3: an octet arrives: the port record after it, and the octets of the telegram it completes, if it completes one. -/
def PortRec.takeOctet (r : PortRec) (o : Octet) : PortRec × Option (List Octet) :=
  match r.assembly with
  | [] => if o = startOctet then (r.join o, none) else (r, none)
  | [_] => if 120 < o.toNat then (r.dropAssembly, none) else (r.join o, none)
  | _ :: len :: _ =>
    if r.assembly.length + 1 < len.toNat + 6 then (r.join o, none)
    else (r.dropAssembly, some (r.assembly ++ [o]))

/-- R9: a valid telegram is offered to the inbound queue; a request that finds it full is answered BUSY. -/
def PortRec.offer (r : PortRec) (t : Telegram) : PortRec :=
  if r.inbound.length < 8 then { r with inbound := r.inbound ++ [t] }
  else if t.isRequest then r.placeBusy ⟨t.kind + 0x80, t.tag, [Result.busy.code]⟩
  else r

/-- R4: a valid telegram arrives. -/
def PortRec.arrive (r : PortRec) (t : Telegram) : PortRec :=
  match r.link with
  | .down => if t.kind = 0x01 then r.offer t else r
  | .up => ({ r with linkTimer := some linkTime }).offer t

/-- R3, R4: an octet arrives at a port. -/
def PortRec.receive (r : PortRec) (o : Octet) : PortRec :=
  let taken := r.takeOctet o
  match taken.2 with
  | some a => match validTelegram a with | some t => taken.1.arrive t | none => taken.1
  | none => taken.1

/-- R3: octets arrive at a port, one after another. -/
def Controller.receiveAll (c : Controller) (p : PortId) (l : List Octet) : Controller :=
  c.setPort p (l.foldl PortRec.receive (c.port p))

/-- R4: a valid telegram arrives at a port. -/
def Controller.arrive (c : Controller) (p : PortId) (t : Telegram) : Controller := c.setPort p ((c.port p).arrive t)

/-! ## Link state (R2, R5 to R7) -/

/-- R7: a port record that goes DOWN. -/
def PortRec.goDown (r : PortRec) : PortRec :=
  { r.dropAssembly with
    link := .down, linkTimer := none, inbound := [], outbound := [], line := none, orderHold := [] }

/-- R7: the loss of a port is handed to the blocks that own work on it. -/
def Controller.handLoss (c : Controller) (p : PortId) : Eff :=
  if p = plantPort then
    ({ c with alloc := c.alloc.dropAtPlantLoss }).schedulerPlantLoss.andThen Controller.sequencerPlantLoss
  else match nozzleOfPort p with
    | some n => c.dispenserLost n
    | none => .of c

/-- R7: a port goes DOWN with cause TIMEOUT or UNUSED. -/
def Controller.portDown (c : Controller) (p : PortId) : Eff := (c.setPort p (c.port p).goDown).handLoss p

/-- R2: the service flag of a dispenser port is handed over. -/
def Controller.takeServiceFlag (c : Controller) (n : Nozzle) : Eff :=
  let p := portOfNozzle n
  let r := c.port p
  let flag := c.store.settings.links.service[n]
  let d := c.setPort p { r with service := flag }
  match flag, r.link with
  | .inService, _ => .of d
  | .unused, .up => d.portDown p
  | .unused, .down => .of (d.setPort p { d.port p with inbound := [], outbound := [], orderHold := [] })

/-- R20: a written setting is handed to its owner. -/
def Controller.takeHandOver (c : Controller) (k : SettingKey) : Eff :=
  match k with
  | .nominalCapacity => c.recomputeCapacity
  | .serviceFlag n => c.takeServiceFlag n
  | _ => .of c

/-- The nozzle number of a port, 0 for P0 and P1 (R5). -/
def nozzleOctet (p : PortId) : Octet :=
  match nozzleOfPort p with
  | some n => BitVec.ofNat 8 (nozzleNumber n)
  | none => 0

/-- The answer body of a HELLO, taken or refused: port, role, nozzle (R5). -/
def helloBody (p : PortId) : List Octet := [BitVec.ofNat 8 p.val, (roleOf p).code, nozzleOctet p]

/-- R5: whether a HELLO matches its port. -/
def helloMatches (p : PortId) (role nozzle : Octet) : Bool := role = (roleOf p).code && nozzle = nozzleOctet p

/-- R5: the code a HELLO is answered with. -/
def Controller.helloResult (c : Controller) (p : PortId) (role nozzle : Octet) : Result :=
  if (c.port p).service = .unused then .state
  else if helloMatches p role nozzle then .ok
  else .role

/-- R5: a matching HELLO brings a DOWN port UP, and the ring is told of the till port. -/
def Controller.goUp (c : Controller) (p : PortId) : Eff :=
  match (c.port p).link with
  | .up => .of c
  | .down =>
    ⟨c.setPort p { c.port p with link := .up, linkTimer := some linkTime }, if p = tillPort then [.tillUp] else []⟩

/-! ## STATUS (R17, R161) -/

/-- The nozzle part of STATUS part 0. -/
def Controller.nozzleStatus (c : Controller) (n : Nozzle) : List Octet :=
  let x := c.ctx n
  [x.state.code, x.vclass.code, x.causes.octet, endReasonCode x.endReason] ++
    octets 4 (match x.auth with | some a => a.seq | none => 0)

/-- All ports, in order. -/
def allPorts : List PortId := List.finRange 8

/-- STATUS part 0. -/
def Controller.statusPart0 (c : Controller) : List Octet :=
  allNozzles.flatMap c.nozzleStatus ++
    [c.sched.state.code, BitVec.ofNat 8 c.sched.stallCount, BitVec.ofNat 8 c.alloc.capacity,
      BitVec.ofNat 8 c.alloc.sum, BitVec.ofNat 8 c.thermal.band.val, c.thermal.precoolClass.code] ++
    octets 2 c.pauseLeft ++ (allPorts.map fun p => (c.port p).statusOctet) ++
    octets 4 (if c.ring.records = [] then 0 else c.ring.oldest) ++ octets 4 c.ring.newest ++
    octets 6 c.stationTotal ++ allNozzles.flatMap fun n => octets 6 c.nozzleTotals[n]

/-- One bank of STATUS part 1. -/
def Controller.bankStatus (c : Controller) (b : BankId) : List Octet :=
  let r := c.bank b
  [bankCode (some b), r.tier.code, r.state.code, holderCode r.holder, r.generation] ++ pressureField r.pressure

/-- STATUS part 1. -/
def Controller.statusPart1 (c : Controller) : List Octet :=
  BitVec.ofNat 8 c.alloc.bankCount :: (allBanks.filter c.configured).flatMap c.bankStatus

/-- Whether a part octet selects part 1 (R161). -/
def selectsPart1 (part : Option Octet) : Bool := part == some 1

end Sys2Proof.Machine
end

