-- ==== Sys2Proof/Machine/Events.lean ====
section
/-! DEFINITION. What follows from an event told to a block, and the running of a step: the events told are taken one at
a time, each with all that follows from it before the next (log entry 4). -/

namespace Sys2Proof.Machine

/-- What the block told of an event does (0.2 and the rule each event names). -/
def Controller.handle (c : Controller) (e : Event) : Eff :=
  match e with
  | .grantPass placed => c.grantPass placed
  | .placeParked n placed => c.placeParked n placed
  | .grantScan => c.grantScan
  | .bankRequest k => c.bankRequest k
  | .judgePreemption n => c.judgePreemption n
  | .bankSampleEntry b pressure temperature => c.takeBankSample b pressure temperature
  | .derateGiven d => c.takeDerate d
  | .startAttempt => c.startAttempt
  | .bankSampled b => c.judgeQueue b
  | .bankIsolated b => c.toldIsolated b
  | .compressorValveOpen => .of c.compressorValveOpened
  | .compressorValveFailed b => c.compressorValveFailed b
  | .compressorReleased b => c.compressorReleased b
  | .refillPreempted => c.allocatorEndsRefill .preempted
  | .refillShed => c.allocatorEndsRefill .chillerShed
  | .precoolGranted n => c.precoolGranted n
  | .nozzleShed n => c.nozzleShed n
  | .bankGranted n ref pressure => c.bankGranted n ref pressure
  | .valveOpened n b => .of (c.valveOpened n b)
  | .valveFailed n b => c.valveFailed n b
  | .bankReleased n b pressure => c.bankReleased n b pressure
  | .bankLost n b pressure => c.bankLost n b pressure
  | .storageLow n => c.storageLow n
  | .classChanged new => .of (c.classChanged new)
  | .handOver k => c.takeHandOver k
  | .banksHandedOver moved => c.takeBanks moved
  | .tillUp => .of c.ringTillUp

/-- The events told, put before those already waiting. -/
def Eff.owe (e : Eff) : Controller := { e.ctl with owed := e.events ++ e.ctl.owed }

/-- At most `k` waiting events are taken, the first with all that it tells before the next. An event not taken stays
waiting (log entry 4). -/
def Controller.runOwed : Nat → Controller → Controller
  | 0, c => c
  | k + 1, c =>
    match c.owed with
    | [] => c
    | e :: l => (({ c with owed := l }).handle e).owe.runOwed k

/-- The events a step may take (log entry 4). -/
def eventFuel : Nat := 4096

/-- All waiting events are taken. -/
def Controller.settle (c : Controller) : Controller := c.runOwed eventFuel

/-- An event taken at once, with all that it tells. -/
def Controller.took (c : Controller) (e : Event) : Controller := ({ c with owed := e :: c.owed }).settle

/-- A step of a running controller: what still waits is taken, the step's own operation, what it tells, and then every
idle line takes its head (R14). A controller without core supply or in reset does nothing (R27, R29). Hand-overs that
wait are taken first (log entry 18). -/
def Controller.perform (c : Controller) (f : Controller → Eff) : Controller :=
  if c.running then (f c.settle).owe.settle.settleLines else c

/-- A step whose events wait for a later step (R20). -/
def Controller.performLater (c : Controller) (f : Controller → Eff) : Controller :=
  if c.running then (f c.settle).owe.settleLines else c

/-- R20: one waiting hand-over is taken, with all that follows from it; the others go on waiting. -/
def Controller.takeOwed (c : Controller) : Controller :=
  if c.running then
    match c.owed with
    | [] => c
    | e :: l =>
      let done := (({ c with owed := [] }).handle e).owe.settle.settleLines
      { done with owed := done.owed ++ l }
  else c

end Sys2Proof.Machine
end

