-- ==== Sys2Proof/Machine/Starts.lean ====
section
/-! DEFINITION. Section 2.6: warm restart, cold start and pending starts, power-up, the reset input, the supplies, and
the link timeout and transmission end at which a pending start may be taken. -/

namespace Sys2Proof.Machine

/-- A bank record after a warm restart (R31, R46): one of the table is treated as at the loss of the plant port, with
the retained tier; one beyond the bank count keeps its generation alone. -/
def Controller.restartBank (c : Controller) (b : BankId) : BankRec :=
  let s := c.store.settings.banks
  if b.val < s.count ∧ b.val < c.alloc.bankCount then { (c.bank b).dropAtPlantLoss with tier := s.tiers[b] }
  else restBank s.tiers[b] (c.bank b).generation

/-- The Allocator after a warm restart (R31, R47, R49). -/
def Controller.restartAllocator (c : Controller) : Allocator where
  banks := Vector.ofFn c.restartBank
  bankCount := c.store.settings.banks.count
  derate := 0
  capacity := c.store.settings.precool.nominal
  reservations := Vector.replicate 6 0
  compressorReservation := 0
  compressorHeld := false
  compressorClaim := none
  precoolList := []
  bankList := []
  parked := Vector.replicate 6 none

/-- The ring after a warm restart: its OPEN records closed with reason RESTART, which set notice-owed (R153). -/
def Controller.restartRing (c : Controller) : Ring :=
  { c.ring with
    records := c.ring.records.map c.closeAtRestart
    noticeOwed := c.ring.holdsOpen
    pacing := none }

/-- R29: a warm restart is taken. -/
def Controller.warmRestart (c : Controller) : Controller :=
  let t := c.totalsAtRestart c.ring.records
  let links := c.store.settings.links
  { c with
    pendingStart := none
    ports := Vector.ofFn fun p => restPort (serviceOf links p)
    alloc := c.restartAllocator
    sched := restScheduler
    thermal := restThermal
    contexts := Vector.ofFn fun n => restContext links.vehicleClass[n]
    joinCounter := 1
    pauseTimer := none
    meters := Vector.replicate 6 restMeter
    stationTotal := t.stationTotal
    nozzleTotals := t.nozzleTotals
    ring := c.restartRing
    owed := [] }

/-- R30: a cold start is taken, whole and with the marker valid at once; a core supply that fails during it is a
CORE_SUPPLY_LOSS that disturbs the contents after it (log entry 36). -/
def Controller.coldStart (c : Controller) : Controller :=
  { coldController with
    corePowered := c.corePowered, retainedPowered := c.retainedPowered, resetAsserted := c.resetAsserted
    freeCount := c.freeCount }

/-- R27: a pending start is taken. -/
def Controller.takeStart (c : Controller) (k : StartKind) : Controller :=
  match k with
  | .warm => c.warmRestart
  | .cold => c.coldStart

/-- Whether a telegram is the OK answer to a RESTART or COLD_START request (R27, section 12.1). -/
def isStartAnswer (t : Telegram) : Bool := (t.kind == 0x99 || t.kind == 0x9A) && t.body == [Result.ok.code]

/-- R14, R27: the transmission on a port ends: the line is free, or the pending start is taken at the end of its
answer on P0. -/
def Controller.transmissionEnded (c : Controller) (p : PortId) : Controller :=
  let r := c.port p
  match r.line, c.pendingStart with
  | none, _ => c
  | some t, some k =>
    if p = plantPort ∧ isStartAnswer t = true then c.takeStart k else c.setPort p { r with line := none }
  | some _, none => c.setPort p { r with line := none }

/-- R6, R7, R27: the link timer of a port expires; at P0 a pending start is taken at that moment (log entry 14). -/
def Controller.linkTimedOut (c : Controller) (p : PortId) : Eff :=
  if (c.port p).linkTimer.isSome then
    match p, c.pendingStart with
    | 0, some k => .of (c.takeStart k)
    | p, _ => c.portDown p
  else .of c

/-- R3: the gap time passes in an open assembly. -/
def Controller.gapTimedOut (c : Controller) (p : PortId) : Controller := c.setPort p (c.port p).dropAssembly

/-- Whether the settings CRC matches the retained settings and locks (R26). -/
def Store.crcMatches (s : Store) : Bool := s.settingsCrc == some s.image

/-- R26: the core supply rises: a warm restart if the marker is valid and the settings CRC matches, else a cold start.
The retained-domain supply is there at a power-up (log entry 15). -/
def Controller.powerUp (c : Controller) : Controller :=
  if c.corePowered then c
  else
    let d := { c with corePowered := true, retainedPowered := true }
    if c.store.marker && c.store.crcMatches then d.warmRestart else d.coldStart

/-- R27, R29: the reset input is asserted: a pending start is dropped, nothing is received or transmitted, and no timer
runs (log entry 35). -/
def Controller.resetAssert (c : Controller) : Controller :=
  if c.resetAsserted then c
  else
    let d := { c with resetAsserted := true, pendingStart := none }.haltTimers
    { d with ports := Vector.ofFn fun p => { d.ports[p] with line := none } }

/-- R29: the reset input is released: a warm restart is taken. Without core supply no block is there to take it, and the
next power-up takes the start instead (log entry 43). -/
def Controller.resetRelease (c : Controller) : Controller :=
  if c.resetAsserted then
    let d := { c with resetAsserted := false }
    if c.corePowered then d.warmRestart else d
  else c

/-- R20, R26, R27: the core supply fails. -/
def Controller.coreLost (c : Controller) (disturbed : Bool) : Controller :=
  if c.corePowered then
    { c with
      corePowered := false, pendingStart := none
      store := { c.store with
        settingsCrc := if disturbed then none else c.store.settingsCrc
        marker := c.store.marker && c.retainedPowered } }
  else c

/-- R26: the retained-domain supply fails: with the core supply absent, the validity marker is lost. -/
def Controller.retainedLost (c : Controller) : Controller :=
  { c with
    retainedPowered := false
    store := { c.store with marker := c.store.marker && c.corePowered } }

/-- R24, R144: a second of the station clock, which every advance hands to the Meter and Charge Unit. -/
def Controller.clockSecond (c : Controller) : Controller :=
  if c.corePowered || c.retainedPowered then ({ c with store := c.store.second }).compareTariff else c

end Sys2Proof.Machine
end

