-- ==== Sys2Proof/Machine/Requests.lean ====
section
/-! DEFINITION. The dispatch of the telegram at the head of an inbound queue (R10, R11): how requests are carried out and
answered, how reports and confirmations are handed to their owners, and what each request does. -/

namespace Sys2Proof.Machine

/-! ## Dispatch (R10, R11) -/

/-- A request carried out: the controller with what it tells, the result code and the answer body (R12, R13). -/
structure Carried where
  eff : Eff
  result : Result
  body : List Octet

/-- `k` zero octets. -/
def zeros (k : Nat) : List Octet := List.replicate k 0

/-- How many zero octets the answer to a refused request carries (section 12.1, table of 12.2). -/
def refusedLength (t : Telegram) : Nat :=
  match t.kind.toNat with
  | 0x12 => 2
  | 0x14 => 6 * ((t.body.length - 1) / 6)
  | 0x18 => 4
  | 0x20 => 6
  | 0x22 => 4
  | 0x24 => 5
  | 0x25 => 6
  | 0x26 => 4
  | 0x27 => 1
  | _ => 0

/-- The answer body of a CANCEL: the nozzle octet, its state, and a sequence number (R99). A nozzle that does not exist
has no state: the octet sent is a free value (log entry 5). -/
def Controller.cancelBody (c : Controller) (nozzle : Octet) (seq : Nat) : List Octet :=
  [nozzle, match nozzleOfNumber nozzle.toNat with | some n => (c.ctx n).state.code | none => Config.freeOctet c.freeCount]
    ++ octets 4 seq

/-- The answer body of a CLEAR_COMPRESSOR_FAULT (R78). -/
def Controller.compressorBody (c : Controller) : List Octet := [c.sched.state.code, BitVec.ofNat 8 c.sched.stallCount]

/-- A request refused: nothing is carried out, and the answer carries the body of its kind with every field zero, but
for CANCEL and CLEAR_COMPRESSOR_FAULT, which carry what their rules give (section 12.1). -/
def Controller.refuse (c : Controller) (t : Telegram) (why : Result) : Carried :=
  match t.kind.toNat with
  | 0x21 =>
    let nozzle := t.body.headD 0
    let used := if (nozzleOfNumber nozzle.toNat).isSome then c else { c with freeCount := c.freeCount + 1 }
    ⟨.of used, why, c.cancelBody nozzle 0⟩
  | 0x13 => ⟨.of c, why, c.compressorBody⟩
  | _ => ⟨.of c, why, zeros (refusedLength t)⟩

/-- A change of one port record. -/
def Controller.updPort (c : Controller) (p : PortId) (f : PortRec → PortRec) : Controller := c.setPort p (f (c.port p))

/-- Whether a telegram stands at the head of a port's inbound queue. -/
def Controller.atHead (c : Controller) (p : PortId) (t : Telegram) : Bool := (c.port p).inbound.head? == some t

/-- A telegram whose command is taken: it stands at the head of its port's inbound queue, or arrives now (log entry
2). -/
def Controller.toHead (c : Controller) (p : PortId) (t : Telegram) : Controller :=
  if c.atHead p t then c else c.arrive p t

/-- R10 step 3, R27: whether a request may be dispatched at a port. -/
def Controller.mayAnswer (c : Controller) (p : PortId) : Bool :=
  (c.port p).outbound.length < 12 && (c.port p).orderHold.isEmpty && c.pendingStart.isNone

/-- The head of an inbound queue taken out. -/
def PortRec.takeHead (r : PortRec) : PortRec := { r with inbound := r.inbound.tail }

/-- R10 step 3, R11: the request at the head is removed, carried out and answered, as one event; a kind that the role
may not send is answered ROLE. A place is kept for the answer while the request is carried out (log entry 17). -/
def Controller.answerHead (c : Controller) (p : PortId) (t : Telegram) (carry : Controller → Carried) : Eff :=
  let d := c.updPort p fun r => { r.takeHead with answerPlace := true }
  let done := if roleMaySend (roleOf p) t.kind then carry d else d.refuse t .role
  done.eff.change fun e => e.updPort p fun r => r.placeAnswer (answerTo t done.result done.body)

/-- R4, R9, R10: a request's command: the telegram arrives if it does not stand at the head, and is dispatched if it
stands there and may be answered. -/
def Controller.serveRequest (c : Controller) (p : PortId) (t : Telegram) (carry : Controller → Carried) : Eff :=
  if t.permitted then
    let d := c.toHead p t
    if d.atHead p t && d.mayAnswer p then d.answerHead p t carry else .of d
  else .of c

/-- R10 steps 1 and 2: the report or confirmation at the head is removed and handed to its owner, or discarded if the
role may not send it. -/
def Controller.takeHeadReport (c : Controller) (p : PortId) (t : Telegram) (act : Controller → Eff) : Eff :=
  let d := c.updPort p PortRec.takeHead
  if roleMaySend (roleOf p) t.kind then act d else .of d

/-- R4, R9, R10: the command of a report or confirmation. -/
def Controller.serveReport (c : Controller) (p : PortId) (t : Telegram) (act : Controller → Eff) : Eff :=
  if t.permitted then
    let d := c.toHead p t
    if d.atHead p t then d.takeHeadReport p t act else .of d
  else .of c

/-! ## The nozzle of a port -/

/-- An operation on the nozzle that a port serves (R11). -/
def Controller.forNozzle (c : Controller) (p : PortId) (f : Nozzle → Eff) : Eff :=
  match nozzleOfPort p with
  | some n => f n
  | none => .of c

/-! ## What each request does -/

/-- A request carried out and answered OK. -/
def Eff.ok (e : Eff) (body : List Octet) : Carried := ⟨e, .ok, body⟩

/-- HELLO (R5). -/
def Controller.carryHello (c : Controller) (p : PortId) (role nozzle : Octet) : Carried :=
  match c.helloResult p role nozzle with
  | .ok => ⟨c.goUp p, .ok, helloBody p⟩
  | why => ⟨.of c, why, helloBody p⟩

/-- STATUS (R17, R161). -/
def Controller.carryStatus (c : Controller) (part : Option Octet) : Carried :=
  Eff.ok (.of c) (if selectsPart1 part then c.statusPart1 else c.statusPart0)

/-- ISOLATE_BANK (R44). -/
def Controller.carryIsolate (c : Controller) (t : Telegram) (bank : Octet) : Carried :=
  match c.bankNamed bank with
  | some b => (c.isolateBank b).ok []
  | none => c.refuse t .argument

/-- RESTORE_BANK (R45). -/
def Controller.carryRestore (c : Controller) (t : Telegram) (bank : Octet) : Carried :=
  match c.bankNamed bank with
  | some b => if (c.bank b).state = .isolated then (c.restoreBank b).ok [] else c.refuse t .state
  | none => c.refuse t .argument

/-- PAUSE_FILLS (R130). -/
def Controller.carryPause (c : Controller) (seconds : Nat) : Carried :=
  let d := c.pauseFills seconds
  Eff.ok (.of d) (octets 2 d.pauseLeft)

/-- CLEAR_COMPRESSOR_FAULT (R78): the start attempt and all that follows from it are taken in the request, and the
answer shows the state and the count that they leave. -/
def Controller.carryClear (c : Controller) (t : Telegram) : Carried :=
  if c.sched.state = .faulted then
    let d := (c.updSched fun s => { s with state := .stopped, stallCount := 0 }).took .startAttempt
    Eff.ok (.of d) d.compressorBody
  else c.refuse t .state

/-- WRITE_SETTINGS (R19, R20). -/
def Controller.carryWrite (c : Controller) (t : Telegram) (code : Octet) (entries : List SettingEntry) : Carried :=
  match groupOf code, c.testWrite code entries with
  | some g, .ok =>
    let e := c.takeWrite g entries
    e.ok (writtenBody g e.ctl.store.settings entries)
  | _, why => c.refuse t why

/-- LOCK_GROUP and UNLOCK_GROUP (R22). -/
def Controller.carryLock (c : Controller) (t : Telegram) (code : Octet) (v : Bool) : Carried :=
  match groupOf code with
  | some g => Eff.ok (.of { c with store := c.store.putLock g v }) []
  | none => c.refuse t .argument

/-- SET_METROLOGY_LOCK (R23). -/
def Controller.carryMetrology (c : Controller) : Carried := Eff.ok (.of { c with store := c.store.lockMetrology }) []

/-- SET_CLOCK (R25), with the comparison of R144. -/
def Controller.carryClock (c : Controller) (value : BitVec 32) : Carried :=
  Eff.ok (.of ({ c with store := c.store.setClock value }).compareTariff) (octets 4 value.toNat)

/-- RESTART (R27). -/
def Controller.carryRestart (c : Controller) : Carried := Eff.ok (.of { c with pendingStart := some .warm }) []

/-- R28: the code of the first test that a COLD_START fails. -/
def Controller.testColdStart (c : Controller) : Result :=
  if c.store.metrologyLock then .locked else if c.ring.holdsOpen then .state else .ok

/-- COLD_START (R27, R28). -/
def Controller.carryColdStart (c : Controller) (t : Telegram) : Carried :=
  match c.testColdStart with
  | .ok => Eff.ok (.of { c with pendingStart := some .cold }) []
  | why => c.refuse t why

/-- AUTHORISE (R95). -/
def Controller.carryAuthorise (c : Controller) (t : Telegram) (nozzle : Octet) (moneyLimit : BitVec 32)
    (massLimit : BitVec 48) (customerClass priority : Octet) : Carried :=
  if c.store.clockSet = false then c.refuse t .clockUnset
  else match nozzleOfNumber nozzle.toNat with
    | none => c.refuse t .argument
    | some n =>
      match c.testAuthorise n moneyLimit.toNat customerClass.toNat priority.toNat with
      | .ok =>
        let a := c.authorisation n moneyLimit.toNat massLimit.toNat customerClass.toNat priority.toNat
        (c.authorise n a).ok (octets 4 a.seq ++ octets 2 a.price)
      | why => c.refuse t why

/-- CANCEL (R99). -/
def Controller.carryCancel (c : Controller) (t : Telegram) (nozzle : Octet) : Carried :=
  match nozzleOfNumber nozzle.toNat with
  | none => c.refuse t .argument
  | some n =>
    if (c.ctx n).state.cancellable then
      let e := c.cancel n
      e.ok (e.ctl.cancelBody nozzle (match (c.ctx n).auth with | some a => a.seq | none => 0))
    else c.refuse t .state

/-- R143: the code of the first test that a WRITE_TARIFF fails. -/
def Controller.testTariff (c : Controller) : Result :=
  if c.store.locks.tariffAccess then .locked else if c.store.clockSet = false then .clockUnset else .ok

/-- WRITE_TARIFF (R143). -/
def Controller.carryTariff (c : Controller) (t : Telegram) (prices : Vector (BitVec 16) 8) (effective : BitVec 32) :
    Carried :=
  match c.testTariff with
  | .ok => Eff.ok (.of { c with pendingTariff := some ⟨prices, effective⟩ }) (octets 4 effective.toNat)
  | why => c.refuse t why

/-- READ_RECORD (R156, R161). -/
def Controller.carryRead (c : Controller) (t : Telegram) (seq : Nat) (part : Option Octet) : Carried :=
  match c.ring.find seq with
  | some r => Eff.ok (.of c) (if selectsPart1 part then recordPart1 r else recordPart0 r)
  | none => c.refuse t .unknownSeq

/-- ACKNOWLEDGE (R155). -/
def Controller.carryAcknowledge (c : Controller) (seq : Nat) : Carried :=
  let d := c.acknowledge seq
  Eff.ok (.of d) (octets 4 (if d.ring.records = [] then 0 else d.ring.oldest) ++ [BitVec.ofNat 8 d.ring.heldCount])

/-- The state octet and the check-valid octet of a record, in the answer to ATTACH_REFERENCE (R157); the check-valid
octet is 01h or 00h (log entry 32). -/
def attachedBody (r : Record) : List Octet :=
  octets 4 r.seq ++ [if r.closed then 0x02 else 0x01, if r.checkValid then 0x01 else 0x00]

/-- ATTACH_REFERENCE (R157). -/
def Controller.carryAttach (c : Controller) (t : Telegram) (seq : Nat) (reference : List Octet) : Carried :=
  match c.ring.find seq with
  | some r => Eff.ok (.of (c.updRecord seq fun x => x.attach reference)) (attachedBody (r.attach reference))
  | none => c.refuse t .unknownSeq

/-- REFRESH_CHECK (R158). -/
def Controller.carryRefresh (c : Controller) (t : Telegram) (seq : Nat) : Carried :=
  match c.ring.find seq with
  | some r =>
    if r.closed then Eff.ok (.of (c.updRecord seq Record.refresh)) (octets 4 (checkWordOf r).toNat)
    else c.refuse t .state
  | none => c.refuse t .unknownSeq

/-- VERIFY_CHECK (R159). -/
def Controller.carryVerify (c : Controller) (t : Telegram) (seq : Nat) (word : BitVec 32) : Carried :=
  match c.ring.find seq with
  | some r => if r.closed then Eff.ok (.of c) [r.verify word] else c.refuse t .state
  | none => c.refuse t .unknownSeq

/-! ## What each report and confirmation does -/

/-- The events of a BANK_SAMPLE's entries: an entry whose bank is not configured is ignored (R33). -/
def Controller.sampleEvents (c : Controller) (entries : List SampleEntry) : List Event :=
  entries.filterMap fun e => (c.bankNamed e.bank).map fun b =>
    .bankSampleEntry b (clampPressure e.pressure) (clampTemperature e.temperature)

/-- BANK_SAMPLE (R33). -/
def Controller.takeBankSamples (c : Controller) (entries : List SampleEntry) : Eff := ⟨c, c.sampleEvents entries⟩

/-- AMBIENT_SAMPLE (R86 to R90), its three values judged. -/
def Controller.takeAmbientSample (c : Controller) (a1 a2 a3 : Option Int) : Controller :=
  { c with thermal := c.thermal.takeAmbient c.store.settings.ambient a1 a2 a3 }

/-- NOZZLE_CONNECT (R97); a class octet that names no class is a free value (log entry 6), and a data-present octet
other than 0 means present (log entry 21). -/
def Controller.takeConnect (c : Controller) (n : Nozzle) (vehicleClass data : Octet) : Eff :=
  match vehicleClassOf vehicleClass with
  | some v => c.nozzleConnect n v (data ≠ 0)
  | none =>
    ({ c with freeCount := c.freeCount + 1 }).nozzleConnect n (if Config.freeClassIsHP c.freeCount then .hp else .lp)
      (data ≠ 0)

/-- VALVE_CONFIRM (R38, R39, R42). -/
def Controller.takeValveConfirm (c : Controller) (tag bank generation state : Octet) : Eff :=
  match c.bankNamed bank with
  | none => .of c
  | some b =>
    match (c.bank b).order with
    | none => .of c
    | some o =>
      if c.valveMatches b tag generation state then
        match o.action with
        | .opened => c.openConfirmed b o.route
        | .closed => c.closeConfirmed b
      else .of c

/-- RUN_CONFIRM (R71). -/
def Controller.takeRunConfirm (c : Controller) (tag state : Octet) : Eff :=
  match c.sched.order with
  | some o => if c.sched.runMatches tag state then c.runConfirmed o else .of c
  | none => .of c

/-- FLOW_CONFIRM (R105). -/
def Controller.takeFlowConfirm (c : Controller) (n : Nozzle) (tag generation state : Octet) : Controller :=
  match (c.ctx n).flowOrder with
  | some o => if (c.ctx n).flowMatches tag generation state then c.flowConfirmed n o.action else c
  | none => c

/-- VENT_DONE (R111). -/
def Controller.takeVentDone (c : Controller) (n : Nozzle) (tag : Octet) (count : BitVec 16) : Controller :=
  match (c.ctx n).ventOrder with
  | some o => if o.tag = tag then c.ventDone n count else c
  | none => c

/-! ## Expiries -/

/-- R40, R43: the confirmation timer of a bank's valve order, of the action named, expires. -/
def Controller.valveTimedOut (c : Controller) (b : BankId) (action : Valve) : Eff :=
  match (c.bank b).order with
  | some o =>
    if o.action = action ∧ o.timer.isSome = true then
      match action with
      | .opened => c.openTimedOut b o.route
      | .closed => c.closeTimedOut b o.route
    else .of c
  | none => .of c

/-- R71: the confirmation timer of a START order expires. -/
def Controller.takeStartTimeout (c : Controller) : Eff :=
  match c.sched.order with
  | some o => if o.action = .start ∧ o.timer.isSome = true then c.startTimedOut o else .of c
  | none => .of c

/-- R71: the confirmation timer of a STOP order expires. -/
def Controller.takeStopTimeout (c : Controller) : Controller :=
  match c.sched.order with
  | some o => if o.action = .stop ∧ o.timer.isSome = true then c.stopTimedOut o else c
  | none => c

/-- R76: the stall window expires in RUNNING. -/
def Controller.takeStall (c : Controller) : Eff :=
  if c.sched.stallWindow.isSome ∧ c.sched.state = .running then c.stall else .of c

/-- R89: the ambient hold timer expires. -/
def Controller.ambientHoldExpired (c : Controller) : Controller := { c with thermal := c.thermal.holdExpired }

/-- An operation taken while a timer runs; a stopped timer does not expire (log entry 3). -/
def Controller.ifRuns (c : Controller) (t : Timer) (e : Eff) : Eff := if t.isSome then e else .of c

end Sys2Proof.Machine
end

