-- ==== Sys2Proof/Machine/Outcome.lean ====
section
/-! DEFINITION. The forms a command's meaning takes: a step of the running controller, a request, a report or
confirmation, and a change made whether or not the controller runs. Every command answers a next state. -/

namespace Sys2Proof.Machine

/-- A state with another controller. -/
def State.withCtl (s : State) (c : Controller) : State := { s with ctl := c }

/-- A step of the running controller (R27, R29). -/
def State.does (s : State) (f : Controller → Eff) : Host.Outcome State Fault Refusal :=
  .next (s.withCtl (s.ctl.perform f))

/-- A request's command (R10). -/
def State.request (s : State) (i : Instr) (carry : Controller → Telegram → Carried) :
    Host.Outcome State Fault Refusal :=
  match telegramOf i with
  | some (p, t) => s.does fun c => c.serveRequest p t fun d => carry d t
  | none => .next s

/-- A request's command whose hand-overs wait (R20). -/
def State.requestLater (s : State) (i : Instr) (carry : Controller → Telegram → Carried) :
    Host.Outcome State Fault Refusal :=
  match telegramOf i with
  | some (p, t) => .next (s.withCtl (s.ctl.performLater fun c => c.serveRequest p t fun d => carry d t))
  | none => .next s

/-- The command of a report or confirmation (R10). -/
def State.report (s : State) (i : Instr) (act : Controller → PortId → Eff) : Host.Outcome State Fault Refusal :=
  match telegramOf i with
  | some (p, t) => s.does fun c => c.serveReport p t fun d => act d p
  | none => .next s

end Sys2Proof.Machine
end

