-- ==== Sys2Proof/Machine/Expiries.lean ====
section
/-! DEFINITION. The expiries of timers and the reports of the Meter and Charge Unit (chapters 3 to 10). An expiry acts
while its timer runs and, for a timer shared by phases, in the phase it belongs to (log entry 3). -/

namespace Sys2Proof.Machine

/-- VALVE_OPEN_TIMEOUT (R40). -/
def execValveOpenTimeout (b : BankId) (s : State) : Host.Outcome State Fault Refusal :=
  s.does fun c => c.valveTimedOut b .opened

/-- VALVE_CLOSE_TIMEOUT (R43). -/
def execValveCloseTimeout (b : BankId) (s : State) : Host.Outcome State Fault Refusal :=
  s.does fun c => c.valveTimedOut b .closed

/-- RUN_START_TIMEOUT (R71). -/
def execRunStartTimeout (s : State) : Host.Outcome State Fault Refusal :=
  s.does fun c => c.takeStartTimeout

/-- RUN_STOP_TIMEOUT (R71). -/
def execRunStopTimeout (s : State) : Host.Outcome State Fault Refusal :=
  s.does fun c => .of c.takeStopTimeout

/-- STALL_WINDOW_EXPIRY (R76). -/
def execStallWindowExpiry (s : State) : Host.Outcome State Fault Refusal :=
  s.does fun c => c.takeStall

/-- BACKOFF_EXPIRY (R76). -/
def execBackoffExpiry (s : State) : Host.Outcome State Fault Refusal :=
  s.does fun c => c.ifRuns c.sched.backoff c.backoffExpired

/-- AMBIENT_HOLD_EXPIRY (R89). -/
def execAmbientHoldExpiry (s : State) : Host.Outcome State Fault Refusal :=
  s.does fun c => c.ifRuns c.thermal.holdTimer (.of c.ambientHoldExpired)

/-- CONNECT_WAIT_EXPIRY (R98). -/
def execConnectWaitExpiry (n : Nozzle) (s : State) : Host.Outcome State Fault Refusal :=
  s.does fun c => c.ifRuns (c.ctx n).connectWait (c.connectWaitExpired n)

/-- RESOURCE_WAIT_EXPIRY (R104). -/
def execResourceWaitExpiry (n : Nozzle) (s : State) : Host.Outcome State Fault Refusal :=
  s.does fun c => c.ifRuns (c.ctx n).resourceWait (c.resourceWaitExpired n)

/-- PULSE_DELAY_EXPIRY (R106). -/
def execPulseDelayExpiry (n : Nozzle) (s : State) : Host.Outcome State Fault Refusal :=
  s.does fun c => c.ifRuns (c.ctx n).leakTimer (.of (c.pulseDelayExpired n))

/-- PULSE_WIDTH_EXPIRY (R106). -/
def execPulseWidthExpiry (n : Nozzle) (s : State) : Host.Outcome State Fault Refusal :=
  s.does fun c => c.ifRuns (c.ctx n).leakTimer (.of (c.pulseWidthExpired n))

/-- SENSITIVE_PART_END (R107). -/
def execSensitivePartEnd (n : Nozzle) (s : State) : Host.Outcome State Fault Refusal :=
  s.does fun c => .of (c.sensitivePartEnded n)

/-- SETTLE_WINDOW_END (R108). -/
def execSettleWindowEnd (n : Nozzle) (s : State) : Host.Outcome State Fault Refusal :=
  s.does fun c => c.ifRuns (c.ctx n).leakTimer (c.settleWindowEnded n)

/-- FLOW_ORDER_TIMEOUT (R105). -/
def execFlowOrderTimeout (n : Nozzle) (s : State) : Host.Outcome State Fault Refusal :=
  s.does fun c => c.ifRuns ((c.ctx n).flowOrder.bind fun o => o.timer) (c.flowTimedOut n)

/-- VENT_TIMEOUT (R111). -/
def execVentTimeout (n : Nozzle) (s : State) : Host.Outcome State Fault Refusal :=
  s.does fun c => c.ifRuns ((c.ctx n).ventOrder.bind fun o => o.timer) (.of (c.ventTimedOut n))

/-- PROGRESS_TIMER_EXPIRY (R113). -/
def execProgressTimerExpiry (n : Nozzle) (s : State) : Host.Outcome State Fault Refusal :=
  s.does fun c => c.ifRuns (c.ctx n).progressTimer (.of (c.progressExpired n))

/-- RAMP_STEP_EXPIRY (R119). -/
def execRampStepExpiry (n : Nozzle) (s : State) : Host.Outcome State Fault Refusal :=
  s.does fun c => c.ifRuns (c.ctx n).rampTimer (.of (c.rampStep n))

/-- HOLD_PERIOD_EXPIRY (R129). -/
def execHoldPeriodExpiry (n : Nozzle) (s : State) : Host.Outcome State Fault Refusal :=
  s.does fun c => if (c.ctx n).holdTimer.running then c.holdPeriodExpired n else .of c

/-- PAUSE_TIMER_EXPIRY (R131). -/
def execPauseTimerExpiry (s : State) : Host.Outcome State Fault Refusal :=
  s.does fun c => c.ifRuns c.pauseTimer (.of c.endPause)

/-- STOP_THRESHOLD_REACHED (R139). -/
def execStopThresholdReached (n : Nozzle) (s : State) : Host.Outcome State Fault Refusal :=
  s.does fun c => c.takeStopReport n

/-- METER_FAULT_REPORT (R135). -/
def execMeterFaultReport (n : Nozzle) (s : State) : Host.Outcome State Fault Refusal :=
  s.does fun c => c.takeFaultReport n

/-- PACING_TIMER_EXPIRY (R154). -/
def execPacingTimerExpiry (s : State) : Host.Outcome State Fault Refusal :=
  s.does fun c => c.ifRuns c.ring.pacing (.of c.pacingExpired)

end Sys2Proof.Machine
end

