-- ==== Sys2Proof/Machine/LinkCommands.lean ====
section
/-! DEFINITION. The commands of the Link Interface: octets and telegrams, timers of the ports, the end of a transmission, HELLO
and STATUS (chapter 1). -/

namespace Sys2Proof.Machine

/-- OCTET_ARRIVAL (R3, R4). -/
def execOctetArrival (p : PortId) (octet : Octet) (s : State) : Host.Outcome State Fault Refusal :=
  s.does fun c => .of (c.receiveAll p [octet])

/-- TELEGRAM_ARRIVAL (R3, R4, R9). -/
def execTelegramArrival (p : PortId) (octets : List Octet) (s : State) : Host.Outcome State Fault Refusal :=
  s.does fun c => .of (c.receiveAll p octets)

/-- RECEIVE_GAP_TIMEOUT (R3). -/
def execReceiveGapTimeout (p : PortId) (s : State) : Host.Outcome State Fault Refusal :=
  s.does fun c => .of (c.gapTimedOut p)

/-- LINK_TIMEOUT (R6, R7). -/
def execLinkTimeout (p : PortId) (s : State) : Host.Outcome State Fault Refusal :=
  s.does fun c => c.linkTimedOut p

/-- TRANSMISSION_END (R14, R27). -/
def execTransmissionEnd (p : PortId) (s : State) : Host.Outcome State Fault Refusal :=
  s.does fun c => .of (c.transmissionEnded p)

/-- HELLO (R5). -/
def execHello (p : PortId) (tag role nozzle : Octet) (s : State) : Host.Outcome State Fault Refusal :=
  s.request (.hello p tag role nozzle) fun c _ => c.carryHello p role nozzle

/-- STATUS (R17, R161). -/
def execStatus (p : PortId) (tag : Octet) (part : Option Octet) (s : State) : Host.Outcome State Fault Refusal :=
  s.request (.status p tag part) fun c _ => c.carryStatus part

end Sys2Proof.Machine
end

