-- ==== Sys2Proof/Machine/PlantRequests.lean ====
section
/-! DEFINITION. The requests of the plant about banks, the compressor, the pause, settings, locks, the clock and starts
(chapters 2, 3, 5 and 8). -/

namespace Sys2Proof.Machine

/-- ISOLATE_BANK (R44). -/
def execIsolateBank (p : PortId) (tag bank : Octet) (s : State) : Host.Outcome State Fault Refusal :=
  s.request (.isolateBank p tag bank) fun c t => c.carryIsolate t bank

/-- RESTORE_BANK (R45). -/
def execRestoreBank (p : PortId) (tag bank : Octet) (s : State) : Host.Outcome State Fault Refusal :=
  s.request (.restoreBank p tag bank) fun c t => c.carryRestore t bank

/-- PAUSE_FILLS (R130). -/
def execPauseFills (p : PortId) (tag : Octet) (seconds : BitVec 16) (s : State) : Host.Outcome State Fault Refusal :=
  s.request (.pauseFills p tag seconds) fun c _ => c.carryPause seconds.toNat

/-- CLEAR_COMPRESSOR_FAULT (R78). -/
def execClearCompressorFault (p : PortId) (tag : Octet) (s : State) : Host.Outcome State Fault Refusal :=
  s.request (.clearCompressorFault p tag) fun c t => c.carryClear t

/-- WRITE_SETTINGS (R19 to R21); its hand-overs wait for SETTINGS_HAND_OVER or the next step (R20). -/
def execWriteSettings (p : PortId) (tag group : Octet) (entries : List SettingEntry) (rest : List Octet) (s : State) :
    Host.Outcome State Fault Refusal :=
  s.requestLater (.writeSettings p tag group entries rest) fun c t => c.carryWrite t group entries

/-- SETTINGS_HAND_OVER (R20). -/
def execSettingsHandOver (s : State) : Host.Outcome State Fault Refusal :=
  Host.Outcome.next (s.withCtl s.ctl.takeOwed)

/-- LOCK_GROUP (R22). -/
def execLockGroup (p : PortId) (tag group : Octet) (s : State) : Host.Outcome State Fault Refusal :=
  s.request (.lockGroup p tag group) fun c t => c.carryLock t group true

/-- UNLOCK_GROUP (R22). -/
def execUnlockGroup (p : PortId) (tag group : Octet) (s : State) : Host.Outcome State Fault Refusal :=
  s.request (.unlockGroup p tag group) fun c t => c.carryLock t group false

/-- SET_METROLOGY_LOCK (R23). -/
def execSetMetrologyLock (p : PortId) (tag : Octet) (s : State) : Host.Outcome State Fault Refusal :=
  s.request (.setMetrologyLock p tag) fun c _ => c.carryMetrology

/-- SET_CLOCK (R25). -/
def execSetClock (p : PortId) (tag : Octet) (value : BitVec 32) (s : State) : Host.Outcome State Fault Refusal :=
  s.request (.setClock p tag value) fun c _ => c.carryClock value

/-- RESTART (R27). -/
def execRestart (p : PortId) (tag : Octet) (s : State) : Host.Outcome State Fault Refusal :=
  s.request (.restart p tag) fun c _ => c.carryRestart

/-- COLD_START (R28). -/
def execColdStart (p : PortId) (tag : Octet) (s : State) : Host.Outcome State Fault Refusal :=
  s.request (.coldStart p tag) fun c t => c.carryColdStart t

end Sys2Proof.Machine
end

