-- ==== Sys2Proof/Machine/Reports.lean ====
section
/-! DEFINITION. The reports and confirmations of the plant and the dispensers (chapters 3, 5, 6 and 7). -/

namespace Sys2Proof.Machine

/-- BANK_SAMPLE (R33). -/
def execBankSample (p : PortId) (tag : Octet) (entries : List SampleEntry) (rest : List Octet) (s : State) :
    Host.Outcome State Fault Refusal :=
  s.report (.bankSample p tag entries rest) fun c _ => c.takeBankSamples entries

/-- CHILLER_SAMPLE (R81). -/
def execChillerSample (p : PortId) (tag : Octet) (supply : BitVec 16) (derate : Octet) (s : State) :
    Host.Outcome State Fault Refusal :=
  s.report (.chillerSample p tag supply derate) fun c _ => c.takeChillerSample (clampTemperature supply) derate.toNat

/-- AMBIENT_SAMPLE (R86). -/
def execAmbientSample (p : PortId) (tag : Octet) (a1 a2 a3 : BitVec 16) (s : State) :
    Host.Outcome State Fault Refusal :=
  s.report (.ambientSample p tag a1 a2 a3) fun c _ =>
    .of (c.takeAmbientSample (sensorValue a1) (sensorValue a2) (sensorValue a3))

/-- COMPRESSOR_SAMPLE (R75). -/
def execCompressorSample (p : PortId) (tag : Octet) (inlet discharge : BitVec 24) (s : State) :
    Host.Outcome State Fault Refusal :=
  s.report (.compressorSample p tag inlet discharge) fun c _ =>
    c.takeCompressorSample (clampPressure inlet) (clampPressure discharge)

/-- NOZZLE_CONNECT (R97). -/
def execNozzleConnect (p : PortId) (tag vehicleClass dataPresent : Octet) (s : State) :
    Host.Outcome State Fault Refusal :=
  s.report (.nozzleConnect p tag vehicleClass dataPresent) fun c p =>
    c.forNozzle p fun n => c.takeConnect n vehicleClass dataPresent

/-- NOZZLE_HANG (R100). -/
def execNozzleHang (p : PortId) (tag : Octet) (s : State) : Host.Outcome State Fault Refusal :=
  s.report (.nozzleHang p tag) fun c p => c.forNozzle p fun n => c.nozzleHang n

/-- STOP_PRESS (R101). -/
def execStopPress (p : PortId) (tag : Octet) (s : State) : Host.Outcome State Fault Refusal :=
  s.report (.stopPress p tag) fun c p => c.forNozzle p fun n => c.stopPress n

/-- FIELD_SAMPLE (R94, R134). -/
def execFieldSample (p : PortId) (tag : Octet) (pressure : BitVec 24) (gas tank : BitVec 16) (flags : Octet)
    (count : BitVec 16) (s : State) :
    Host.Outcome State Fault Refusal :=
  s.report (.fieldSample p tag pressure gas tank flags count) fun c p => c.forNozzle p fun n =>
    c.fieldSample n (clampPressure pressure) (clampTemperature gas) (tankTemperature tank) (vehicleFlags flags) count

/-- VALVE_CONFIRM (R38). -/
def execValveConfirm (p : PortId) (tag bank generation state : Octet) (s : State) :
    Host.Outcome State Fault Refusal :=
  s.report (.valveConfirm p tag bank generation state) fun c _ => c.takeValveConfirm tag bank generation state

/-- RUN_CONFIRM (R71). -/
def execRunConfirm (p : PortId) (tag state : Octet) (s : State) : Host.Outcome State Fault Refusal :=
  s.report (.runConfirm p tag state) fun c _ => c.takeRunConfirm tag state

/-- FLOW_CONFIRM (R105). -/
def execFlowConfirm (p : PortId) (tag generation state : Octet) (s : State) : Host.Outcome State Fault Refusal :=
  s.report (.flowConfirm p tag generation state) fun c p => c.forNozzle p fun n =>
    .of (c.takeFlowConfirm n tag generation state)

/-- VENT_DONE (R111). -/
def execVentDone (p : PortId) (tag : Octet) (count : BitVec 16) (s : State) : Host.Outcome State Fault Refusal :=
  s.report (.ventDone p tag count) fun c p => c.forNozzle p fun n => .of (c.takeVentDone n tag count)

end Sys2Proof.Machine
end

