-- ==== Sys2Proof/Machine/Supplies.lean ====
section
/-! DEFINITION. The supplies, the reset input and the station clock (sections 2.4 to 2.6). These act whether or not the
controller runs. -/

namespace Sys2Proof.Machine

/-- POWER_UP (R26). -/
def execPowerUp (s : State) : Host.Outcome State Fault Refusal :=
  Host.Outcome.next (s.withCtl s.ctl.powerUp)

/-- RESET_ASSERT (R29). -/
def execResetAssert (s : State) : Host.Outcome State Fault Refusal :=
  Host.Outcome.next (s.withCtl s.ctl.resetAssert)

/-- RESET_RELEASE (R29). -/
def execResetRelease (s : State) : Host.Outcome State Fault Refusal :=
  Host.Outcome.next (s.withCtl s.ctl.resetRelease)

/-- CLOCK_SECOND (R24, R144). -/
def execClockSecond (s : State) : Host.Outcome State Fault Refusal :=
  Host.Outcome.next (s.withCtl s.ctl.clockSecond)

/-- CORE_SUPPLY_LOSS (R20, R26, R27). -/
def execCoreSupplyLoss (disturbed : Bool) (s : State) : Host.Outcome State Fault Refusal :=
  Host.Outcome.next (s.withCtl (s.ctl.coreLost disturbed))

/-- RETAINED_DOMAIN_SUPPLY_LOSS (R26). -/
def execRetainedDomainSupplyLoss (s : State) : Host.Outcome State Fault Refusal :=
  Host.Outcome.next (s.withCtl s.ctl.retainedLost)

end Sys2Proof.Machine
end

