-- ==== Sys2Proof/Machine/TillRequests.lean ====
section
/-! DEFINITION. The requests of the till: authorisation, tariffs and the transaction ring (chapters 7, 9 and 10). -/

namespace Sys2Proof.Machine

/-- AUTHORISE (R95). -/
def execAuthorise (p : PortId) (tag nozzle : Octet) (moneyLimit : BitVec 32) (massLimit : BitVec 48)
    (customerClass priority : Octet) (s : State) :
    Host.Outcome State Fault Refusal :=
  s.request (.authorise p tag nozzle moneyLimit massLimit customerClass priority) fun c t =>
    c.carryAuthorise t nozzle moneyLimit massLimit customerClass priority

/-- CANCEL (R99). -/
def execCancel (p : PortId) (tag nozzle : Octet) (s : State) : Host.Outcome State Fault Refusal :=
  s.request (.cancel p tag nozzle) fun c t => c.carryCancel t nozzle

/-- WRITE_TARIFF (R143). -/
def execWriteTariff (p : PortId) (tag : Octet) (prices : Vector (BitVec 16) 8) (effective : BitVec 32) (s : State) :
    Host.Outcome State Fault Refusal :=
  s.request (.writeTariff p tag prices effective) fun c t => c.carryTariff t prices effective

/-- READ_RECORD (R156, R161). -/
def execReadRecord (p : PortId) (tag : Octet) (seq : BitVec 32) (part : Option Octet) (s : State) :
    Host.Outcome State Fault Refusal :=
  s.request (.readRecord p tag seq part) fun c t => c.carryRead t seq.toNat part

/-- ACKNOWLEDGE (R155). -/
def execAcknowledge (p : PortId) (tag : Octet) (seq : BitVec 32) (s : State) : Host.Outcome State Fault Refusal :=
  s.request (.acknowledge p tag seq) fun c _ => c.carryAcknowledge seq.toNat

/-- ATTACH_REFERENCE (R157). -/
def execAttachReference (p : PortId) (tag : Octet) (seq : BitVec 32) (reference : List Octet) (s : State) :
    Host.Outcome State Fault Refusal :=
  s.request (.attachReference p tag seq reference) fun c t => c.carryAttach t seq.toNat reference

/-- REFRESH_CHECK (R158). -/
def execRefreshCheck (p : PortId) (tag : Octet) (seq : BitVec 32) (s : State) : Host.Outcome State Fault Refusal :=
  s.request (.refreshCheck p tag seq) fun c t => c.carryRefresh t seq.toNat

/-- VERIFY_CHECK (R159). -/
def execVerifyCheck (p : PortId) (tag : Octet) (seq word : BitVec 32) (s : State) :
    Host.Outcome State Fault Refusal :=
  s.request (.verifyCheck p tag seq word) fun c t => c.carryVerify t seq.toNat word

end Sys2Proof.Machine
end

