-- ==== Sys2Proof/Machine/Dispatch.lean ====
section
/-! DEFINITION. One arm for each command: a direct call of its meaning. -/

namespace Sys2Proof.Machine

def exec (i : Instr) (s : State) : Host.Outcome State Fault Refusal :=
  match i with
  | .receiveGapTimeout p => Sys2Proof.Machine.execReceiveGapTimeout p s
  | .telegramArrival p octets => Sys2Proof.Machine.execTelegramArrival p octets s
  | .linkTimeout p => Sys2Proof.Machine.execLinkTimeout p s
  | .transmissionEnd p => Sys2Proof.Machine.execTransmissionEnd p s
  | .hello p tag role nozzle => Sys2Proof.Machine.execHello p tag role nozzle s
  | .status p tag part => Sys2Proof.Machine.execStatus p tag part s
  | .isolateBank p tag bank => Sys2Proof.Machine.execIsolateBank p tag bank s
  | .restoreBank p tag bank => Sys2Proof.Machine.execRestoreBank p tag bank s
  | .pauseFills p tag seconds => Sys2Proof.Machine.execPauseFills p tag seconds s
  | .clearCompressorFault p tag => Sys2Proof.Machine.execClearCompressorFault p tag s
  | .writeSettings p tag group entries rest => Sys2Proof.Machine.execWriteSettings p tag group entries rest s
  | .settingsHandOver => Sys2Proof.Machine.execSettingsHandOver s
  | .lockGroup p tag group => Sys2Proof.Machine.execLockGroup p tag group s
  | .unlockGroup p tag group => Sys2Proof.Machine.execUnlockGroup p tag group s
  | .setMetrologyLock p tag => Sys2Proof.Machine.execSetMetrologyLock p tag s
  | .setClock p tag value => Sys2Proof.Machine.execSetClock p tag value s
  | .restart p tag => Sys2Proof.Machine.execRestart p tag s
  | .coldStart p tag => Sys2Proof.Machine.execColdStart p tag s
  | .authorise p tag nozzle moneyLimit massLimit customerClass priority => Sys2Proof.Machine.execAuthorise p tag nozzle moneyLimit massLimit customerClass priority s
  | .cancel p tag nozzle => Sys2Proof.Machine.execCancel p tag nozzle s
  | .writeTariff p tag prices effective => Sys2Proof.Machine.execWriteTariff p tag prices effective s
  | .readRecord p tag seq part => Sys2Proof.Machine.execReadRecord p tag seq part s
  | .acknowledge p tag seq => Sys2Proof.Machine.execAcknowledge p tag seq s
  | .attachReference p tag seq reference => Sys2Proof.Machine.execAttachReference p tag seq reference s
  | .refreshCheck p tag seq => Sys2Proof.Machine.execRefreshCheck p tag seq s
  | .verifyCheck p tag seq word => Sys2Proof.Machine.execVerifyCheck p tag seq word s
  | .bankSample p tag entries rest => Sys2Proof.Machine.execBankSample p tag entries rest s
  | .chillerSample p tag supply derate => Sys2Proof.Machine.execChillerSample p tag supply derate s
  | .ambientSample p tag a1 a2 a3 => Sys2Proof.Machine.execAmbientSample p tag a1 a2 a3 s
  | .compressorSample p tag inlet discharge => Sys2Proof.Machine.execCompressorSample p tag inlet discharge s
  | .nozzleConnect p tag vehicleClass dataPresent => Sys2Proof.Machine.execNozzleConnect p tag vehicleClass dataPresent s
  | .nozzleHang p tag => Sys2Proof.Machine.execNozzleHang p tag s
  | .stopPress p tag => Sys2Proof.Machine.execStopPress p tag s
  | .fieldSample p tag pressure gas tank flags count => Sys2Proof.Machine.execFieldSample p tag pressure gas tank flags count s
  | .valveConfirm p tag bank generation state => Sys2Proof.Machine.execValveConfirm p tag bank generation state s
  | .runConfirm p tag state => Sys2Proof.Machine.execRunConfirm p tag state s
  | .flowConfirm p tag generation state => Sys2Proof.Machine.execFlowConfirm p tag generation state s
  | .ventDone p tag count => Sys2Proof.Machine.execVentDone p tag count s
  | .powerUp => Sys2Proof.Machine.execPowerUp s
  | .resetAssert => Sys2Proof.Machine.execResetAssert s
  | .resetRelease => Sys2Proof.Machine.execResetRelease s
  | .clockSecond => Sys2Proof.Machine.execClockSecond s
  | .valveOpenTimeout b => Sys2Proof.Machine.execValveOpenTimeout b s
  | .valveCloseTimeout b => Sys2Proof.Machine.execValveCloseTimeout b s
  | .runStartTimeout => Sys2Proof.Machine.execRunStartTimeout s
  | .runStopTimeout => Sys2Proof.Machine.execRunStopTimeout s
  | .stallWindowExpiry => Sys2Proof.Machine.execStallWindowExpiry s
  | .backoffExpiry => Sys2Proof.Machine.execBackoffExpiry s
  | .ambientHoldExpiry => Sys2Proof.Machine.execAmbientHoldExpiry s
  | .connectWaitExpiry n => Sys2Proof.Machine.execConnectWaitExpiry n s
  | .resourceWaitExpiry n => Sys2Proof.Machine.execResourceWaitExpiry n s
  | .pulseDelayExpiry n => Sys2Proof.Machine.execPulseDelayExpiry n s
  | .pulseWidthExpiry n => Sys2Proof.Machine.execPulseWidthExpiry n s
  | .sensitivePartEnd n => Sys2Proof.Machine.execSensitivePartEnd n s
  | .settleWindowEnd n => Sys2Proof.Machine.execSettleWindowEnd n s
  | .flowOrderTimeout n => Sys2Proof.Machine.execFlowOrderTimeout n s
  | .ventTimeout n => Sys2Proof.Machine.execVentTimeout n s
  | .progressTimerExpiry n => Sys2Proof.Machine.execProgressTimerExpiry n s
  | .rampStepExpiry n => Sys2Proof.Machine.execRampStepExpiry n s
  | .holdPeriodExpiry n => Sys2Proof.Machine.execHoldPeriodExpiry n s
  | .pauseTimerExpiry => Sys2Proof.Machine.execPauseTimerExpiry s
  | .stopThresholdReached n => Sys2Proof.Machine.execStopThresholdReached n s
  | .meterFaultReport n => Sys2Proof.Machine.execMeterFaultReport n s
  | .pacingTimerExpiry => Sys2Proof.Machine.execPacingTimerExpiry s
  | .octetArrival p octet => Sys2Proof.Machine.execOctetArrival p octet s
  | .coreSupplyLoss disturbed => Sys2Proof.Machine.execCoreSupplyLoss disturbed s
  | .retainedDomainSupplyLoss => Sys2Proof.Machine.execRetainedDomainSupplyLoss s

end Sys2Proof.Machine
end

