-- ==== Sys2Proof/Machine/Commands.lean ====
section
/-! DEFINITION. The decoder of the station link: the command that a telegram at a port is (section 12.2), the other way
round from `telegramOf`. -/

namespace Sys2Proof.Machine

/-- A bit vector of the number that octets carry, the most significant first. -/
def field (w : Nat) (l : List Octet) : BitVec w := BitVec.ofNat w (number l)

/-- The whole entries of a WRITE_SETTINGS body, and the octets beyond the last. -/
def takeSettings : List Octet → List SettingEntry × List Octet
  | a :: b :: c :: d :: e :: f :: l =>
    let more := takeSettings l
    (⟨field 16 [a, b], field 32 [c, d, e, f]⟩ :: more.1, more.2)
  | l => ([], l)

/-- The whole entries of a BANK_SAMPLE body, and the octets beyond the last. -/
def takeSamples : List Octet → List SampleEntry × List Octet
  | a :: b :: c :: d :: e :: f :: l =>
    let more := takeSamples l
    (⟨a, field 24 [b, c, d], field 16 [e, f]⟩ :: more.1, more.2)
  | l => ([], l)

/-- The command of a STATUS body. -/
def statusOf (p : PortId) (tag : Octet) : List Octet → Option Instr
  | [] => some (.status p tag none)
  | [o] => some (.status p tag (some o))
  | _ => none

/-- The command of a one-octet body. -/
def oneOctet (k : Octet → Instr) : List Octet → Option Instr
  | [a] => some (k a)
  | _ => none

/-- The command of a two-octet body. -/
def twoOctets (k : Octet → Octet → Instr) : List Octet → Option Instr
  | [a, b] => some (k a b)
  | _ => none

/-- The command of a three-octet body. -/
def threeOctets (k : Octet → Octet → Octet → Instr) : List Octet → Option Instr
  | [a, b, c] => some (k a b c)
  | _ => none

/-- The command of an empty body. -/
def noOctets (i : Instr) : List Octet → Option Instr
  | [] => some i
  | _ => none

/-- The command of a body that is one 16-bit field. -/
def field16 (k : BitVec 16 → Instr) : List Octet → Option Instr
  | [a, b] => some (k (field 16 [a, b]))
  | _ => none

/-- The command of a body that is one 32-bit field. -/
def field32 (k : BitVec 32 → Instr) : List Octet → Option Instr
  | [a, b, c, d] => some (k (field 32 [a, b, c, d]))
  | _ => none

/-- The command of a WRITE_SETTINGS body. -/
def writeOf (p : PortId) (tag : Octet) : List Octet → Option Instr
  | g :: l => some (.writeSettings p tag g (takeSettings l).1 (takeSettings l).2)
  | [] => none

/-- The command of an AUTHORISE body. -/
def authoriseOf (p : PortId) (tag : Octet) : List Octet → Option Instr
  | [n, a, b, c, d, e, f, g, h, i, j, k, prio] =>
    some (.authorise p tag n (field 32 [a, b, c, d]) (field 48 [e, f, g, h, i, j]) k prio)
  | _ => none

/-- The eight prices at the head of a WRITE_TARIFF body. -/
def pricesOf (l : List Octet) : Vector (BitVec 16) 8 :=
  Vector.ofFn fun i => field 16 ((l.drop (2 * i.val)).take 2)

/-- The command of a WRITE_TARIFF body. -/
def tariffOf (p : PortId) (tag : Octet) (l : List Octet) : Option Instr :=
  if l.length = 20 then some (.writeTariff p tag (pricesOf l) (field 32 (l.drop 16))) else none

/-- The command of a READ_RECORD body. -/
def readOf (p : PortId) (tag : Octet) : List Octet → Option Instr
  | [a, b, c, d] => some (.readRecord p tag (field 32 [a, b, c, d]) none)
  | [a, b, c, d, o] => some (.readRecord p tag (field 32 [a, b, c, d]) (some o))
  | _ => none

/-- The command of an ATTACH_REFERENCE body. -/
def attachOf (p : PortId) (tag : Octet) : List Octet → Option Instr
  | a :: b :: c :: d :: reference => some (.attachReference p tag (field 32 [a, b, c, d]) reference)
  | _ => none

/-- The command of a VERIFY_CHECK body. -/
def verifyOf (p : PortId) (tag : Octet) : List Octet → Option Instr
  | [a, b, c, d, e, f, g, h] => some (.verifyCheck p tag (field 32 [a, b, c, d]) (field 32 [e, f, g, h]))
  | _ => none

/-- The command of a CHILLER_SAMPLE body. -/
def chillerOf (p : PortId) (tag : Octet) : List Octet → Option Instr
  | [a, b, d] => some (.chillerSample p tag (field 16 [a, b]) d)
  | _ => none

/-- The command of an AMBIENT_SAMPLE body. -/
def ambientOf (p : PortId) (tag : Octet) : List Octet → Option Instr
  | [a, b, c, d, e, f] => some (.ambientSample p tag (field 16 [a, b]) (field 16 [c, d]) (field 16 [e, f]))
  | _ => none

/-- The command of a COMPRESSOR_SAMPLE body. -/
def compressorOf (p : PortId) (tag : Octet) : List Octet → Option Instr
  | [a, b, c, d, e, f] => some (.compressorSample p tag (field 24 [a, b, c]) (field 24 [d, e, f]))
  | _ => none

/-- The command of a FIELD_SAMPLE body. -/
def fieldSampleOf (p : PortId) (tag : Octet) : List Octet → Option Instr
  | [a, b, c, d, e, f, g, h, i, j] =>
    some (.fieldSample p tag (field 24 [a, b, c]) (field 16 [d, e]) (field 16 [f, g]) h (field 16 [i, j]))
  | _ => none

/-- The command that a telegram at a port is; none for a kind or a body length that may not arrive. -/
def commandOf (p : PortId) (t : Telegram) : Option Instr :=
  if t.permitted = false then none
  else match t.kind.toNat with
  | 0x01 => twoOctets (.hello p t.tag) t.body
  | 0x02 => statusOf p t.tag t.body
  | 0x10 => oneOctet (.isolateBank p t.tag) t.body
  | 0x11 => oneOctet (.restoreBank p t.tag) t.body
  | 0x12 => field16 (.pauseFills p t.tag) t.body
  | 0x13 => noOctets (.clearCompressorFault p t.tag) t.body
  | 0x14 => writeOf p t.tag t.body
  | 0x15 => oneOctet (.lockGroup p t.tag) t.body
  | 0x16 => oneOctet (.unlockGroup p t.tag) t.body
  | 0x17 => noOctets (.setMetrologyLock p t.tag) t.body
  | 0x18 => field32 (.setClock p t.tag) t.body
  | 0x19 => noOctets (.restart p t.tag) t.body
  | 0x1A => noOctets (.coldStart p t.tag) t.body
  | 0x20 => authoriseOf p t.tag t.body
  | 0x21 => oneOctet (.cancel p t.tag) t.body
  | 0x22 => tariffOf p t.tag t.body
  | 0x23 => readOf p t.tag t.body
  | 0x24 => field32 (.acknowledge p t.tag) t.body
  | 0x25 => attachOf p t.tag t.body
  | 0x26 => field32 (.refreshCheck p t.tag) t.body
  | 0x27 => verifyOf p t.tag t.body
  | 0x30 => some (.bankSample p t.tag (takeSamples t.body).1 (takeSamples t.body).2)
  | 0x31 => chillerOf p t.tag t.body
  | 0x32 => ambientOf p t.tag t.body
  | 0x33 => compressorOf p t.tag t.body
  | 0x38 => twoOctets (.nozzleConnect p t.tag) t.body
  | 0x39 => noOctets (.nozzleHang p t.tag) t.body
  | 0x3A => noOctets (.stopPress p t.tag) t.body
  | 0x3B => fieldSampleOf p t.tag t.body
  | 0x40 => threeOctets (.valveConfirm p t.tag) t.body
  | 0x41 => oneOctet (.runConfirm p t.tag) t.body
  | 0x42 => twoOctets (.flowConfirm p t.tag) t.body
  | 0x43 => field16 (.ventDone p t.tag) t.body
  | _ => none

end Sys2Proof.Machine
end

