-- ==== Sys2Proof/Machine/Idle.lean ====
section
/-! DEFINITION. What comes about when no command waits: what is due in the controller itself is taken, and otherwise time
passes (log entry 3). -/

namespace Sys2Proof.Machine

/-- Whether a timer has run out. -/
def Timer.out (t : Timer) : Bool := t == some 0

/-- The command of a port whose gap or link timer has run out. -/
def Controller.portDue (c : Controller) (p : PortId) : List Instr :=
  let r := c.port p
  (if Timer.out r.gapTimer then [.receiveGapTimeout p] else []) ++
    (if Timer.out r.linkTimer then [.linkTimeout p] else [])

/-- The command of a bank whose valve order's timer has run out. -/
def Controller.bankDue (c : Controller) (b : BankId) : List Instr :=
  match (c.bank b).order with
  | some o =>
    if Timer.out o.timer then
      match o.action with
      | .opened => [.valveOpenTimeout b]
      | .closed => [.valveCloseTimeout b]
    else []
  | none => []

/-- The commands of the Scheduler's timers that have run out. -/
def Controller.schedDue (c : Controller) : List Instr :=
  let s := c.sched
  (match s.order with
    | some o =>
      if Timer.out o.timer then
        match o.action with
        | .start => [.runStartTimeout]
        | .stop => [.runStopTimeout]
      else []
    | none => []) ++
    (match s.stallWindow with | some w => if w.left = 0 then [.stallWindowExpiry] else [] | none => []) ++
    (if Timer.out s.backoff then [.backoffExpiry] else [])

/-- The command of the leak-check timer that has run out, by phase. -/
def leakDue (n : Nozzle) : Option LeakPhase → List Instr
  | some .delay => [.pulseDelayExpiry n]
  | some .pulse => [.pulseWidthExpiry n]
  | some .settle => [.settleWindowEnd n]
  | some .opening | some .closing | none => []

/-- The commands of a nozzle: its meter reports that wait, and its timers that have run out. -/
def Controller.nozzleDue (c : Controller) (n : Nozzle) : List Instr :=
  let x := c.ctx n
  let m := c.meter n
  (if m.stopReport.isSome then [.stopThresholdReached n] else []) ++
    (if m.faultReport then [.meterFaultReport n] else []) ++
    (if Timer.out x.connectWait then [.connectWaitExpiry n] else []) ++
    (if Timer.out x.resourceWait then [.resourceWaitExpiry n] else []) ++
    (match x.sensitive with | .left 0 => [.sensitivePartEnd n] | _ => []) ++
    (if Timer.out x.leakTimer then leakDue n x.phase else []) ++
    (if Timer.out (x.flowOrder.bind fun o => o.timer) then [.flowOrderTimeout n] else []) ++
    (if Timer.out (x.ventOrder.bind fun o => o.timer) then [.ventTimeout n] else []) ++
    (if Timer.out x.rampTimer then [.rampStepExpiry n] else []) ++
    (if x.holdTimer.running && x.holdTimer.left == 0 then [.holdPeriodExpiry n] else []) ++
    (if Timer.out x.progressTimer then [.progressTimerExpiry n] else [])

/-- The command at the head of a port's inbound queue, if it may be dispatched (R10, R27). -/
def Controller.headDue (c : Controller) (p : PortId) : List Instr :=
  match (c.port p).inbound with
  | t :: _ => if !t.isRequest || c.mayAnswer p then (commandOf p t).toList else []
  | [] => []

/-- Everything due in the controller itself, in the order the model takes it: transmissions that end, hand-overs that
wait (R20), meter reports, timers that have run out, and the heads of the inbound queues. -/
def Controller.due (c : Controller) : List Instr :=
  ((allPorts.filter fun p => (c.port p).line.isSome).map Instr.transmissionEnd) ++
    (if c.owed = [] then [] else [.settingsHandOver]) ++ allPorts.flatMap c.portDue ++ allBanks.flatMap c.bankDue ++
    c.schedDue ++ (if Timer.out c.thermal.holdTimer then [.ambientHoldExpiry] else []) ++
    allNozzles.flatMap c.nozzleDue ++ (if Timer.out c.pauseTimer then [.pauseTimerExpiry] else []) ++
    (if Timer.out c.ring.pacing then [.pacingTimerExpiry] else []) ++ allPorts.flatMap c.headDue

/-- The command a running controller takes when none waits. -/
def Controller.nextDue (c : Controller) : Option Instr := if c.running then c.due.head? else none

/-- 100 ms pass in a running controller with nothing due. -/
def Controller.passTime (c : Controller) : Controller := if c.running then c.tick else c

end Sys2Proof.Machine
end

