-- ==== Sys2Proof/WellFormed.lean ====
section
/-! DEFINITION. Which commands are well formed: a list operand has the length its telegram's body permits (section
12.2), and the octets beyond the last whole entry are fewer than an entry. The ports, nozzles and banks of a command
are in range by their types. -/

namespace Sys2Proof

/-- Whether a command is well formed. -/
def Instr.wellFormed : Instr → Bool
  | .telegramArrival _ octets => 1 ≤ octets.length && octets.length ≤ 126
  | .writeSettings _ _ _ entries rest =>
      1 ≤ entries.length && rest.length < 6 && entries.length * 6 + rest.length ≤ 114
  | .attachReference _ _ _ reference => reference.length ≤ 16
  | .bankSample _ _ entries rest =>
      1 ≤ entries.length && rest.length < 6 && entries.length * 6 + rest.length ≤ 72
  | .receiveGapTimeout _ | .linkTimeout _ | .transmissionEnd _ | .hello _ _ _ _ | .status _ _ _ | .isolateBank _ _ _
  | .restoreBank _ _ _ | .pauseFills _ _ _ | .clearCompressorFault _ _ | .settingsHandOver | .lockGroup _ _ _
  | .unlockGroup _ _ _ | .setMetrologyLock _ _ | .setClock _ _ _ | .restart _ _ | .coldStart _ _
  | .authorise _ _ _ _ _ _ _ | .cancel _ _ _ | .writeTariff _ _ _ _ | .readRecord _ _ _ _ | .acknowledge _ _ _
  | .refreshCheck _ _ _ | .verifyCheck _ _ _ _ | .chillerSample _ _ _ _ | .ambientSample _ _ _ _ _
  | .compressorSample _ _ _ _ | .nozzleConnect _ _ _ _ | .nozzleHang _ _ | .stopPress _ _
  | .fieldSample _ _ _ _ _ _ _ | .valveConfirm _ _ _ _ _ | .runConfirm _ _ _ | .flowConfirm _ _ _ _
  | .ventDone _ _ _ | .powerUp | .resetAssert | .resetRelease | .clockSecond | .valveOpenTimeout _
  | .valveCloseTimeout _ | .runStartTimeout | .runStopTimeout | .stallWindowExpiry | .backoffExpiry
  | .ambientHoldExpiry | .connectWaitExpiry _ | .resourceWaitExpiry _ | .pulseDelayExpiry _ | .pulseWidthExpiry _
  | .sensitivePartEnd _ | .settleWindowEnd _ | .flowOrderTimeout _ | .ventTimeout _ | .progressTimerExpiry _
  | .rampStepExpiry _ | .holdPeriodExpiry _ | .pauseTimerExpiry | .stopThresholdReached _ | .meterFaultReport _
  | .pacingTimerExpiry | .octetArrival _ _ | .coreSupplyLoss _ | .retainedDomainSupplyLoss => true

end Sys2Proof
end

