-- ==== Sys2Proof/Safety.lean ====
section
/-! DEFINITION. What counts as a sound state, and the words in which the statements speak of a step: a controller at
rest, a telegram at the head of its queue, a telegram sent, a fill that ends. -/

namespace Sys2Proof.Machine

/-! ## Invariants -/

/-- R1: an inbound queue holds at most 8 telegrams, an outbound queue at most 12; R14: the outbound queue stands by
priority, the highest first; R15: orders are held only behind a full queue; and no place is kept for an answer between
steps. -/
abbrev PortRec.queuesFit (r : PortRec) : Prop :=
  r.inbound.length ≤ 8 ∧ r.outbound.length ≤ 12 ∧ (r.outbound.map Telegram.priority).Pairwise (· ≥ ·) ∧
    (r.orderHold ≠ [] → r.outbound.length = 12) ∧ r.answerPlace = false

/-- Every port's queues fit. -/
abbrev Controller.queuesFit (c : Controller) : Prop := ∀ p, (c.port p).queuesFit

/-- R14: no line is idle while a telegram waits for it. -/
abbrev Controller.linesServed (c : Controller) : Prop := ∀ p, (c.port p).line = none → (c.port p).outbound = []

/-- R48: the sum of all precool reservations does not exceed the capacity in force. -/
abbrev Controller.reservationsFit (c : Controller) : Prop := c.alloc.sum ≤ c.alloc.capacity

/-- R34: a bank's state and holder go together. -/
def BankRec.agrees (r : BankRec) : Bool :=
  match r.state, r.holder with
  | .drawing, some (.nozzle _) => true
  | .refilling, some .compressor => true
  | .idle, none => true
  | .isolated, none => true
  | _, _ => false

/-- R34 for every bank. -/
abbrev Controller.holdersAgree (c : Controller) : Prop := ∀ b, (c.bank b).agrees = true

/-- R148: a record has at most 8 segments, and their masses sum exactly to its metered mass. -/
abbrev Record.massesSum (r : Record) : Prop :=
  (r.segments.map Segment.mass).sum = r.metered

/-- R140: the billing of a CLOSED record is whole, and its charge is that of its billed mass. -/
abbrev Record.billedWhole (r : Record) : Prop :=
  r.closed = true → r.billed + r.unbilled = r.billable ∧ r.charge = (r.billed * r.price + 50000) / 100000

/-- R148, R140 for every record held. -/
abbrev Controller.recordsWhole (c : Controller) : Prop := ∀ r ∈ c.ring.records, r.massesSum ∧ r.billedWhole

/-- R149: the sequence numbers of a list, oldest first, are consecutive and lead to the next sequence number. -/
def consecutive (next : Nat) : List Nat → Bool
  | [] => true
  | [s] => succSeq s == next
  | s :: u :: l => succSeq s == u && consecutive next (u :: l)

/-- R147, R149: at most 64 records are held, with consecutive numbers from 1 to 4,294,967,295 that lead to the next
sequence number. -/
abbrev Ring.isWindow (r : Ring) : Prop :=
  r.records.length ≤ 64 ∧ consecutive r.nextSeq (r.records.map Record.seq) = true ∧
    1 ≤ r.nextSeq ∧ r.nextSeq ≤ 4294967295 ∧ ∀ x ∈ r.records, 1 ≤ x.seq ∧ x.seq ≤ 4294967295

/-- R141: each totaliser counts in 48 bits, and the station totaliser is the sum of the nozzle totalisers, modulo
2^48. -/
abbrev Controller.totalsAgree (c : Controller) : Prop :=
  c.stationTotal = c.nozzleTotals.toList.sum % 2 ^ 48 ∧ ∀ n : Nozzle, c.nozzleTotals[n] < 2 ^ 48

/-- R119: no target lies above the end pressure of the entry in use. -/
def Context.targetFits (x : Context) : Bool :=
  match x.target, x.entry with
  | some t, some e => decide (t ≤ e.pEnd * 1000)
  | _, _ => true

/-- R119 for every context. -/
abbrev Controller.targetsFit (c : Controller) : Prop := ∀ n, (c.ctx n).targetFits = true

/-- R23, R28: no cold start is pending while the metrology lock is set. -/
abbrev Controller.lockGuards (c : Controller) : Prop :=
  c.pendingStart = some .cold → c.store.metrologyLock = false

/-- R95, R96, R112: a context holds an authorisation exactly while it holds an OPEN record or is COMPLETE. R128: no
hold cause stands in RAMPING, and one at least in HOLD. R106, R108, R109: a leak-check phase stands in LEAK_CHECK alone
(log entry 26). R94: tank temperature and vehicle flags are absent while vehicle data present is clear. -/
abbrev Context.agrees (x : Context) : Prop :=
  x.auth.isSome = (x.state.holdsRecord || x.state == .complete) ∧
    (x.state = .ramping → x.causes.isEmpty = true) ∧ (x.state = .hold → x.causes.isEmpty = false) ∧
    (x.phase.isSome = true → x.state = .leakCheck) ∧
    (x.vehicleData = false → x.tankTemp = none ∧ x.flags = none)

/-- R95, R128, R94 for every context. -/
abbrev Controller.contextsAgree (c : Controller) : Prop := ∀ n, (c.ctx n).agrees

/-! ## A controller at rest -/

/-- A running controller between two steps: no event waits to be taken, no line is idle while a telegram waits for it,
and no place is kept for an answer. -/
abbrev Controller.atRest (c : Controller) : Prop :=
  c.running = true ∧ c.owed = [] ∧ c.linesServed ∧ ∀ p, (c.port p).answerPlace = false

/-- A controller at rest in which nobody waits for precool, a bank or the compressor's claim: a grant pass and a grant
scan find nothing to do (R51, R56). -/
abbrev Controller.calm (c : Controller) : Prop :=
  c.atRest ∧ c.alloc.precoolList = [] ∧ c.alloc.bankList = [] ∧ c.alloc.compressorClaim = none

/-- R10 step 3: a request stands at the head of a port's inbound queue and can be carried out: an outbound place is
free, no order is held, no start is pending. -/
abbrev Controller.asked (c : Controller) (p : PortId) (t : Telegram) (rest : List Telegram) : Prop :=
  (c.port p).inbound = t :: rest ∧ (c.port p).outbound.length < 12 ∧ (c.port p).orderHold = [] ∧
    c.pendingStart = none

/-- R10 step 2: a report or confirmation stands at the head of a port's inbound queue. -/
abbrev Controller.told (c : Controller) (p : PortId) (t : Telegram) (rest : List Telegram) : Prop :=
  (c.port p).inbound = t :: rest

/-- An outbound place is free at a port that is UP, and no order is held there (R15). -/
abbrev Controller.room (c : Controller) (p : PortId) : Prop :=
  (c.port p).link = .up → (c.port p).outbound.length < 12 ∧ (c.port p).orderHold = []

/-- As many outbound places are free at a port that is UP, and no order is held there (R15). -/
abbrev Controller.roomFor (c : Controller) (p : PortId) (k : Nat) : Prop :=
  (c.port p).link = .up → (c.port p).outbound.length + k ≤ 12 ∧ (c.port p).orderHold = []

/-! ## Telegrams taken and sent -/

/-- R14, R15: a telegram that finds a place: it begins transmission on an idle line, and otherwise waits in the
outbound queue. -/
def PortRec.sends (r : PortRec) (t : Telegram) : PortRec :=
  match r.line with
  | none => { r with line := some t }
  | some _ => { r with outbound := enqueue t r.outbound }

/-- R9: a valid telegram offered to the inbound queue. -/
def PortRec.queued (r : PortRec) (t : Telegram) : PortRec :=
  if r.inbound.length < 8 then { r with inbound := r.inbound ++ [t] }
  else if t.isRequest = true ∧ r.outbound.length < 12 then r.sends ⟨t.kind + 0x80, t.tag, [0x01]⟩
  else r

/-- R14: a port whose transmission has ended. -/
def PortRec.lineFreed (r : PortRec) : PortRec :=
  match r.outbound, r.orderHold with
  | [], _ => { r with line := none }
  | t :: q, [] => { r with line := some t, outbound := q }
  | t :: q, o :: held => { r with line := some t, outbound := enqueue o q, orderHold := held }

/-- R3: no octet that arrives now completes a telegram. -/
def PortRec.incomplete (r : PortRec) : Bool :=
  match r.assembly with
  | _ :: len :: l => l.length + 1 < len.toNat + 4
  | _ => true

/-- R7: a port that has gone DOWN. -/
def PortRec.fallen (r : PortRec) : PortRec :=
  { r with
    link := .down, assembly := [], gapTimer := none, inbound := [], outbound := [], orderHold := []
    linkTimer := none, line := none }

/-- R46, R63: an account at the loss of the plant port: every configured bank without a holder, its generation one
higher where it had one, its order and its pressure dropped, an ISOLATED one left so; nothing reserved and nobody
waiting. -/
def Allocator.fallen (a : Allocator) : Allocator :=
  { a with
    banks := Vector.ofFn fun b =>
      let r := a.banks[b]
      if b.val < a.bankCount then
        { tier := r.tier, pressure := none, temperature := none, holder := none, order := none
          releasePending := false, nextHolder := none
          state := if r.state = .isolated then .isolated else .idle
          generation := if r.holder = none then r.generation else r.generation + 1 }
      else r
    reservations := Vector.replicate 6 0, compressorReservation := 0, compressorHeld := false
    compressorClaim := none, precoolList := [], bankList := [], parked := Vector.replicate 6 none }

/-- R79: a Scheduler at the loss of the plant port. -/
def Scheduler.fallen (k : Scheduler) : Scheduler :=
  { k with
    state := if k.state = .faulted then .faulted else .stopped
    queue := [], refillBank := none, heldBank := none, claimPending := none, order := none, stopPending := false
    runConfirmed := k.runConfirmed && !k.refilling, valveOpen := k.valveOpen && !k.refilling
    stallWindow := none, backoff := none, inlet := none, discharge := none }

/-- A telegram taken from the head of a port's inbound queue. -/
def Controller.taken (c : Controller) (p : PortId) (rest : List Telegram) : Controller :=
  c.setPort p { c.port p with inbound := rest }

/-- A telegram sent at a port. -/
def Controller.sends (c : Controller) (p : PortId) (t : Telegram) : Controller := c.setPort p ((c.port p).sends t)

/-- A request taken from the head of a port's inbound queue and answered. -/
def Controller.answered (c : Controller) (p : PortId) (rest : List Telegram) (a : Telegram) : Controller :=
  (c.taken p rest).sends p a

/-- A notice for a port with room: sent, or discarded where the port is DOWN (R8). -/
def Controller.notices (c : Controller) (p : PortId) (kind : Octet) (body : List Octet) : Controller :=
  match (c.port p).link with
  | .up => c.sends p ⟨kind, 0, body⟩
  | .down => c

/-- R16: an order for a port with room: it takes the port's tag, and is sent, or discarded where the port is DOWN
(R8). -/
def Controller.orders (c : Controller) (p : PortId) (kind : Octet) (body : List Octet) : Controller :=
  let r := { c.port p with tagCounter := (c.port p).tagCounter + 1 }
  match r.link with
  | .up => c.setPort p (r.sends ⟨kind, (c.port p).tagCounter, body⟩)
  | .down => c.setPort p r

/-- The two states agree but for one port and what the other fields of `keep` say: every port but `p` is unchanged. -/
abbrev Controller.otherPorts (c d : Controller) (p : PortId) : Prop := ∀ q, q ≠ p → d.port q = c.port q

/-! ## Fills that end -/

/-- R133, R140, R151, R159: a record as its close writes it, for a vent correction, a billing limit and a close time. -/
def Record.billedAs (r : Record) (v bLim : Nat) (time : BitVec 32) : Record :=
  let billable := r.metered - v
  let billed := min billable bLim
  let q := { r with
    ventCorrection := v, billable := billable, billed := billed, unbilled := billable - billed
    charge := (billed * r.price + 50000) / 100000, closeTime := some time, closed := true }
  { q with checkWord := checkWordOf q, checkValid := true }

/-- The records of a ring with those of one sequence number changed. -/
def changed (seq : Nat) (f : Record → Record) (l : List Record) : List Record :=
  l.map fun r => if r.seq = seq then f r else r

/-- R110, R125: a record with a close pressure written into its newest segment. -/
def Record.closing (pressure : Option Nat) (q : Record) : Record :=
  { q with segments := q.segments.dropLast ++
      (q.segments.getLast?.map fun g : Segment => { g with closePressure := pressure }).toList }

/-- R110: a record with a pressure written as its end pressure, if it has a flow start time. -/
def Record.endingAt (pressure : Nat) (r : Record) : Record :=
  { r with endPressure := if r.flowStart.isSome then some pressure else r.endPressure }

/-- R52: an account without a nozzle: no reservation, no entry, no parked request, no next-holder place. -/
def Allocator.without (a : Allocator) (n : Nozzle) : Allocator :=
  { a with
    banks := Vector.ofFn fun b => { a.banks[b] with
      nextHolder := if isNextHolder n a.banks[b] then none else a.banks[b].nextHolder }
    reservations := a.reservations.set n 0
    precoolList := a.precoolList.filter fun k => k.nozzle != n
    bankList := a.bankList.filter fun k => k.nozzle != n
    parked := a.parked.set n none }

/-- R41: a bank record after its holder `h` has asked for its release, an order handed taking the tag and time given. -/
def BankRec.released (r : BankRec) (h : Holder) (tag : Octet) (time : Nat) : BankRec :=
  if r.holder ≠ some h then r
  else match r.order, r.releasePending with
    | none, false => { r with order := some ⟨.closed, tag, h, r.generation, some time⟩ }
    | some o, false => if o.action = .opened then { r with releasePending := true } else r
    | _, true => r

/-- Every part of the controller but the port records, the contexts, the account and the ring is unchanged. -/
abbrev Controller.restKept (c d : Controller) : Prop :=
  d = { c with ports := d.ports, contexts := d.contexts, alloc := d.alloc, ring := d.ring }

/-- R105, R110: a context as it enters ENDING with a reason; `tag` and `time` are those of the order it hands. -/
def Context.endedWith (x : Context) (why : EndReason) (tag : Octet) (time : Nat) : Context :=
  { x with
    state := .ending, endReason := some why, phase := none, leakTimer := none, sensitive := .over, rampTimer := none
    holdTimer := { x.holdTimer with running := false }, wanted := .closed, ventSettled := false
    bankSettled := x.currentBank.isNone
    flowOrder := if x.flow = .opened ∧ x.flowOrder = none
      then x.flowBank.map fun b => ⟨.closed, tag, b.generation, some time⟩ else x.flowOrder
    ventOrder := if x.flow = .closed ∧ x.flowOrder = none then some ⟨tag, some 10000⟩ else x.ventOrder }

/-- R105: the FLOW CLOSE that a fill whose wanted flow becomes CLOSED hands its dispenser, where its flow is OPEN and no
flow order is in flight. -/
def Controller.shutsFlow (c : Controller) (n : Nozzle) : Controller :=
  match (c.ctx n).flow, (c.ctx n).flowOrder, (c.ctx n).flowBank with
  | .opened, none, some b => c.orders (portOfNozzle n) 0x52 [0x02, b.generation]
  | _, _, _ => c

/-- R105, R110: the order that a fill hands its dispenser as it enters ENDING: a FLOW CLOSE where the flow is OPEN, a
VENT where it is CLOSED, and none where a flow order is in flight. -/
def Controller.endOrders (c : Controller) (n : Nozzle) : Controller :=
  if (c.ctx n).flow = .closed ∧ (c.ctx n).flowOrder = none then c.orders (portOfNozzle n) 0x53 [] else c.shutsFlow n

/-- R41: the BANK_VALVE CLOSE that the release of a fill's current bank hands the plant, where the fill holds the bank
and neither an order of it is in flight nor its release pending. -/
def Controller.freesBank (c : Controller) (n : Nozzle) : Controller :=
  match (c.ctx n).currentBank with
  | some ref =>
    let r := c.bank ref.bank
    if r.holder = some (.nozzle n) ∧ r.order = none ∧ r.releasePending = false then
      c.orders plantPort 0x50
        [BitVec.ofNat 8 (ref.bank.val + 1), BitVec.ofNat 8 (n.val + 1), 0x02, r.generation, 0, 0, 0]
    else c
  | none => c

/-- R110: in `d` the fill at nozzle `n` of `c` has entered ENDING with a reason, and nothing else has changed: its
context; its record's end reason, and its end pressure where the vent is ordered at once; its place in the account; and
its bank, whose release has been asked for. The order it hands has gone to its dispenser, the CLOSE of its bank to the
plant, and no other port has changed. -/
abbrev Controller.endsFill (c d : Controller) (n : Nozzle) (why : EndReason) : Prop :=
  let x := c.ctx n
  c.restKept d ∧
    (c.room (portOfNozzle n) → d.port (portOfNozzle n) = (c.endOrders n).port (portOfNozzle n)) ∧
    (c.room plantPort → d.port plantPort = (c.freesBank n).port plantPort) ∧
    (∀ q, q ≠ plantPort → q ≠ portOfNozzle n → d.port q = c.port q) ∧
    d.contexts = c.contexts.set n (x.endedWith why (c.port (portOfNozzle n)).tagCounter c.orderTime) ∧
    d.ring = { c.ring with records := match x.auth with
      | some a => changed a.seq (fun r => { r with
          endReason := some why
          endPressure := if x.flow = .closed ∧ x.flowOrder = none ∧ r.flowStart.isSome = true then some x.measured
            else r.endPressure }) c.ring.records
      | none => c.ring.records } ∧
    d.alloc = { c.alloc.without n with banks := match x.currentBank with
      | some b => (c.alloc.without n).banks.set b.bank
          ((c.alloc.without n).banks[b.bank].released (.nozzle n) (c.port plantPort).tagCounter c.orderTime)
      | none => (c.alloc.without n).banks }

/-- R137: a meter state after the close of its nozzle's record. -/
def Meter.closed (m : Meter) : Meter :=
  { m with
    metering := false, implausible := 0, limits := none, stopReported := false, stopReport := none
    faultReport := false }

/-- A fill at nozzle `n` with its authorisation, its OPEN record and its fill limits. -/
abbrev Controller.hasFill (c : Controller) (n : Nozzle) (a : Authorisation) (r : Record) (f : FillLimits) : Prop :=
  (c.ctx n).auth = some a ∧ c.recordOf n = some r ∧ r.closed = false ∧ (c.meter n).limits = some f

/-- R112: in `d` the fill at nozzle `n` of `c`, in ENDING with vent and bank settled, has been closed, and nothing else
has changed but the queues of the till and its dispenser, and the till's notice. -/
abbrev Controller.fillCloses (c d : Controller) (n : Nozzle) (a : Authorisation) (r : Record) (f : FillLimits) : Prop :=
  let x := c.ctx n
  d = { c with
    ports := d.ports
    contexts := c.contexts.set n { x with
      progressTimer := none, state := if x.hangSeen then .idle else .complete
      auth := if x.hangSeen then none else some a }
    meters := c.meters.set n (c.meter n).closed
    stationTotal := (c.stationTotal + r.metered) % 2 ^ 48
    nozzleTotals := c.nozzleTotals.set n ((c.nozzleTotals[n] + r.metered) % 2 ^ 48)
    ring := { c.ring with
      records := changed a.seq (fun q =>
        q.billedAs (c.store.settings.meter.ventFor q.nozzle q.endPressure) f.bLim c.store.clock) c.ring.records
      noticeOwed := d.ring.noticeOwed, pacing := d.ring.pacing } } ∧
  ∀ q, q ≠ tillPort → q ≠ portOfNozzle n → d.port q = c.port q

/-- R96, R112, R154: in `d`, the fill of `c` closed, the FILL_ENDED of its CLOSED record `r` has gone to the dispenser
and to the till, behind a RECORDS_READY where no pacing timer ran at a till port that is UP; at one that is DOWN the
notice stays owed. -/
abbrev Controller.endIsTold (c d : Controller) (n : Nozzle) (r : Record) : Prop :=
  let p := portOfNozzle n
  let body := [BitVec.ofNat 8 (n.val + 1)] ++ octets 4 r.seq ++ [endReasonCode r.endReason, r.flagsOctet] ++
    octets 6 r.metered ++ octets 6 r.billed ++ octets 4 r.charge
  (c.roomFor p 1 → d.port p = (c.notices p 0x62 body).port p) ∧
  (c.roomFor tillPort 2 →
    (c.ring.pacing.isSome = true ∨ (c.port tillPort).link = .down → d.ring.noticeOwed = true ∧
      d.ring.pacing = c.ring.pacing ∧ d.port tillPort = (c.notices tillPort 0x62 body).port tillPort) ∧
    (c.ring.pacing = none → (c.port tillPort).link = .up → d.ring.noticeOwed = false ∧
      d.ring.pacing = some (c.store.settings.links.pacing * 100) ∧
      d.port tillPort = ((c.notices tillPort 0x63 (octets 4 d.ring.oldest ++ octets 4 d.ring.newestClosed)).notices
        tillPort 0x62 body).port tillPort))

/-- R96: in `d` the fill at nozzle `n` of `c`, with authorisation `a`, OPEN record `r` and fill limits `f`, has been
closed without flow and its end told at its dispenser and the till, and nothing else has changed. -/
abbrev Controller.closesFill (c d : Controller) (n : Nozzle) (a : Authorisation) (r : Record) (f : FillLimits)
    (why : EndReason) : Prop :=
  let x := c.ctx n
  let closed := fun q : Record => { q with endReason := some why }.billedAs
    (c.store.settings.meter.ventFor q.nozzle q.endPressure) f.bLim c.store.clock
  d = { c with
    ports := d.ports
    contexts := c.contexts.set n { x with
      connectWait := none, resourceWait := none, endReason := some why, auth := none
      state := if x.connected then .connected else .idle }
    alloc := c.alloc.without n
    meters := c.meters.set n (c.meter n).closed
    stationTotal := (c.stationTotal + r.metered) % 2 ^ 48
    nozzleTotals := c.nozzleTotals.set n ((c.nozzleTotals[n] + r.metered) % 2 ^ 48)
    ring := { c.ring with
      records := changed a.seq closed c.ring.records
      noticeOwed := d.ring.noticeOwed, pacing := d.ring.pacing } } ∧
  (∀ q, q ≠ tillPort → q ≠ portOfNozzle n → d.port q = c.port q) ∧ c.endIsTold d n (closed r)

/-! ## Starts -/

/-- R29, R1, R31, R47, R65, R80, R93, R132, R146, R147, R153: what a warm restart leaves in every block: retained memory
and the supplies as they were, each OPEN record closed with reason RESTART from its running fields, the totalisers
raised by its metered mass, and everything else at its restart value. -/
def Controller.restarted (c : Controller) : Controller :=
  let g := c.store.settings
  let opened := c.ring.records.filter fun r => !r.closed
  { c with
    pendingStart := none, owed := []
    ports := Vector.ofFn fun p => restPort (match nozzleOfPort p with | some n => g.links.service[n] | none => .inService)
    alloc := {
      banks := Vector.ofFn fun b =>
        let r := c.alloc.banks[b]
        if b.val < g.banks.count ∧ b.val < c.alloc.bankCount then
          { restBank g.banks.tiers[b] (if r.holder = none then r.generation else r.generation + 1) with
            state := if r.state = .isolated then .isolated else .idle }
        else restBank g.banks.tiers[b] r.generation
      bankCount := g.banks.count, derate := 0, capacity := g.precool.nominal
      reservations := Vector.replicate 6 0, compressorReservation := 0, compressorHeld := false
      compressorClaim := none, precoolList := [], bankList := [], parked := Vector.replicate 6 none }
    sched := restScheduler, thermal := restThermal
    contexts := Vector.ofFn fun n => restContext g.links.vehicleClass[n]
    joinCounter := 1, pauseTimer := none, meters := Vector.replicate 6 restMeter
    stationTotal := (c.stationTotal + (opened.map Record.metered).sum) % 2 ^ 48
    nozzleTotals := Vector.ofFn fun n =>
      (c.nozzleTotals[n] + ((opened.filter fun r => r.nozzle == n).map Record.metered).sum) % 2 ^ 48
    ring := { c.ring with
      records := c.ring.records.map fun r =>
        if r.closed then r
        else { r with
          endReason := some .restart, endPressure := none
          ventUnconfirmed := r.ventUnconfirmed || r.flowStart.isSome }.billedAs 0
            (fillLimits r.moneyLimit r.massLimit r.price (g.meter.classMaxMass.of r.vclass)
              (g.meter.vMin r.nozzle)).bLim c.store.clock
      noticeOwed := !opened.isEmpty, pacing := none } }

/-- R30: what a cold start leaves: the cold start values in every block, the supplies and the reset input as they were.
-/
def Controller.coldStarted (c : Controller) : Controller :=
  { coldController with
    corePowered := c.corePowered, retainedPowered := c.retainedPowered, resetAsserted := c.resetAsserted
    freeCount := c.freeCount }

/-- R141: every totaliser counts in 48 bits. -/
abbrev Controller.totalsFit (c : Controller) : Prop :=
  c.stationTotal < 2 ^ 48 ∧ ∀ n : Nozzle, c.nozzleTotals[n] < 2 ^ 48

/-! ## Settings -/

/-- R32: the bank table of a write: its bank count in force, the records beyond the old count or the new one at rest,
and the tiers it names, `keys` being the entries it names and `after` the settings it leaves. -/
def Allocator.rewritten (a : Allocator) (after : Settings) (keys : List SettingKey) : Allocator :=
  let counted := .bankCount ∈ keys
  { a with
    bankCount := if counted then after.banks.count else a.bankCount
    banks := Vector.ofFn fun b =>
      let r := if counted ∧ (after.banks.count ≤ b.val ∨ a.bankCount ≤ b.val)
        then restBank after.banks.tiers[b] a.banks[b].generation else a.banks[b]
      { r with tier := if .bankTier b ∈ keys then after.banks.tiers[b] else r.tier } }

/-- R66, R67: a refill queue with some banks taken from it, and those of `joining` put back one by one, each at the tail
of its tier's part. -/
def Controller.requeued (c : Controller) (leaving : BankId → Bool) (joining : List BankId) : List BankId :=
  let rank := fun b => (c.bank b).tier.rank
  joining.foldl (fun q b => q.takeWhile (fun u => rank b ≤ rank u) ++ b :: q.dropWhile fun u => rank b ≤ rank u)
    (c.sched.queue.filter fun b => !leaving b)

/-! ## Holds -/

/-- R128, R131: a context as a cause leaves it: in HOLD, left without a cause, it ramps again; otherwise its set alone
changes. -/
def Context.withoutCause (x : Context) (k : HoldCause) (step : Nat) : Context :=
  let left := x.causes.put k false
  if x.state = .hold ∧ left = ⟨false, false, false, false⟩ then { x with
    causes := left, state := .ramping, lagCount := 0, rampTimer := some step
    holdTimer := { x.holdTimer with running := false } }
  else { x with causes := left }

/-- R128, R105: a context as a cause reaches it: RAMPING becomes HOLD, with `tag` and `time` those of the FLOW CLOSE it
hands; HOLD holds one more cause. -/
def Context.withCause (x : Context) (k : HoldCause) (tag : Octet) (time : Nat) : Context :=
  match x.state with
  | .ramping => { x with
    state := .hold, causes := x.causes.put k true, rampTimer := none, wanted := .closed
    holdTimer := { x.holdTimer with running := true }
    flowOrder := if x.flow = .opened ∧ x.flowOrder = none
      then x.flowBank.map fun b => ⟨.closed, tag, b.generation, some time⟩ else x.flowOrder }
  | .hold => { x with causes := x.causes.put k true }
  | _ => x

/-- R115, R131: a context as the loss of the plant port reaches it: release outstanding cleared, and a fill without
PLANT_PAUSE. -/
def Context.plantLost (x : Context) : Context :=
  { x with
    releaseOutstanding := false
    causes := if x.state.holdsRecord then { x.causes with plantPause := false } else x.causes }

/-! ## The Allocator's grants -/

/-- R36: an IDLE bank record granted to a holder, its OPEN order handed with a tag. -/
def BankRec.granted (r : BankRec) (h : Holder) (tag : Octet) (time : Nat) : BankRec :=
  { r with
    state := match h with | .nozzle _ => .drawing | .compressor => .refilling
    holder := some h, generation := r.generation + 1
    order := some ⟨.opened, tag, h, r.generation + 1, some time⟩ }

/-- R36, R103, R126: bank `b` granted to nozzle `n`, which waits for one: the OPEN order, the bank, the nozzle's entry
off the bank list, the segment opened; a fill in WAIT_RESOURCES begins its leak check, its meter in METERING. -/
def Controller.grants (c : Controller) (b : BankId) (n : Nozzle) : Controller :=
  let r := c.bank b
  let x := c.ctx n
  let held := { x with currentBank := some ⟨b, r.tier, r.generation + 1⟩ }
  { (c.orders plantPort 0x50
      [BitVec.ofNat 8 (b.val + 1), BitVec.ofNat 8 (n.val + 1), 0x01, r.generation + 1, 0, 0, 0]) with
    alloc := { c.alloc with
      banks := c.alloc.banks.set b (r.granted (.nozzle n) (c.port plantPort).tagCounter c.orderTime)
      bankList := c.alloc.bankList.filter fun k => k.nozzle != n }
    contexts := c.contexts.set n (if x.state = .waitResources then { held with
        state := .leakCheck, phase := some .opening, resourceWait := none, progressTimer := some 1000 } else held)
    meters := if x.state = .waitResources then c.meters.set n { c.meter n with metering := true, implausible := 0 }
      else c.meters
    ring := match x.auth with
      | some a => { c.ring with records := changed a.seq (fun q =>
          { q with segments := q.segments ++ [⟨b, r.tier, r.pressure, none, 0⟩] }) c.ring.records }
      | none => c.ring }

/-- R73: the refill in progress ends, the compressor in the state `next`: a STOP where no run order is in flight, or
pending behind a START; the release of the bank held asked for; the reservation given back. -/
def Controller.refillEnds (c : Controller) (next : CompressorState) : Controller :=
  let k := c.sched
  let stopped := if k.order = none then c.orders plantPort 0x51 [0x02, bankCode k.refillBank] else c
  let shut : Controller := match k.heldBank with
    | some h =>
      let r := c.bank h.bank
      if r.holder = some .compressor ∧ r.order = none ∧ r.releasePending = false then
        stopped.orders plantPort 0x50 [BitVec.ofNat 8 (h.bank.val + 1), 0x07, 0x02, r.generation, 0, 0, 0]
      else stopped
    | none => stopped
  { shut with
    alloc := { c.alloc with
      compressorReservation := if c.alloc.compressorHeld then 0 else c.alloc.compressorReservation
      compressorHeld := false
      banks := match k.heldBank with
        | some h => c.alloc.banks.set h.bank
            ((c.bank h.bank).released .compressor (stopped.port plantPort).tagCounter c.orderTime)
        | none => c.alloc.banks }
    sched := { k with
      state := next, refillBank := none, heldBank := k.heldBank.map fun h : HeldBank => ⟨h.bank, true⟩
      runConfirmed := false, valveOpen := false, stallWindow := none
      order := match k.order with
        | none => some ⟨.stop, k.refillBank, (c.port plantPort).tagCounter, some c.orderTime⟩
        | some o => some o
      stopPending := k.stopPending || k.order.any fun o : RunOrder => o.action == .start } }

/-- R57: the bank that a request preempts, if it preempts one. -/
def Controller.toPreempt (c : Controller) (k : BankClaim) : Option BankId :=
  if c.store.settings.banks.preemptEnable = true ∧ c.store.settings.banks.preemptMinimum ≤ k.priority then
    allBanks.find? fun b => decide (b.val < c.alloc.bankCount) && (c.bank b).state == .refilling &&
      qualifies (c.bank b) k && !(c.bank b).releasePending && (c.bank b).nextHolder.isNone &&
      (c.bank b).order.all fun o => o.action == .opened
  else none

/-- R57: bank `b`, which the compressor refills, preempted for a request: the nozzle its next holder; the CLOSE handed,
or release pending behind an OPEN; and the refill ended. -/
def Controller.preempts (c : Controller) (b : BankId) (k : BankClaim) : Controller :=
  let r := c.bank b
  let closing := if r.order = none then
      c.orders plantPort 0x50 [BitVec.ofNat 8 (b.val + 1), 0x07, 0x02, r.generation, 0, 0, 0] else c
  { closing with alloc := { c.alloc with
      bankList := c.alloc.bankList.filter fun u => u.nozzle != k.nozzle
      banks := c.alloc.banks.set b { r with
        nextHolder := some k, releasePending := r.order.isSome
        order := match r.order with
          | none => some ⟨.closed, (c.port plantPort).tagCounter, .compressor, r.generation, some c.orderTime⟩
          | some o => some o } } }.refillEnds .stopped

/-- R54 step 2: no configured bank, in whatever state, could serve a request. -/
abbrev Controller.storageIsLow (c : Controller) (k : BankClaim) : Prop :=
  ∀ b : BankId, b.val < c.alloc.bankCount → ¬ ((k.vclass = .hp ∨ (c.bank b).tier ≠ .high) ∧
    k.floor.rank ≤ (c.bank b).tier.rank ∧ ∀ p ∈ (c.bank b).pressure, k.required ≤ p)

/-- R54, R56, R57: a bank request that some bank could serve, of a nozzle that stands nowhere on the bank list, which is
empty: parked where the nozzle holds no reservation; else granted, or its refilling bank preempted, or waiting. -/
def Controller.asks (c : Controller) (k : BankClaim) : Controller :=
  if c.reservation k.nozzle = 0 then { c with alloc := { c.alloc with parked := c.alloc.parked.set k.nozzle (some k) } }
  else match c.chooseBank k, c.toPreempt k with
    | some b, _ => c.grants b k.nozzle
    | none, some b => c.preempts b k
    | none, none => { c with alloc := { c.alloc with bankList := [k] } }

/-- R54 step 1: a nozzle that has no bank, no claim to one and no parked request. -/
abbrev Controller.wantsBank (c : Controller) (n : Nozzle) : Prop :=
  (c.ctx n).currentBank = none ∧ c.parkedOf n = none ∧
    ∀ b, (c.bank b).holder ≠ some (.nozzle n) ∧ ∀ k ∈ (c.bank b).nextHolder, k.nozzle ≠ n

/-- A bank that a request preempts is the one the compressor refills, under its reservation (R65, R53). -/
abbrev Controller.refillsWhat (c : Controller) (k : BankClaim) : Prop :=
  ∀ b ∈ c.toPreempt k, c.sched.refilling = true ∧ c.sched.heldBank.map HeldBank.bank = some b ∧
    c.alloc.compressorHeld = true

/-- R68, R69, R53: what a start attempt leaves, where the head of the precool list does not fit: STARVED at a low inlet;
the first IDLE bank of the queue claimed, and the refill STARTING where the load fits with nobody waiting for precool,
or the claim waiting. Nothing where the compressor is not STOPPED, holds a bank, or has a run order in flight. -/
def Controller.attempts (c : Controller) : Controller :=
  let k := c.sched
  let load := c.store.settings.precool.compressorLoad
  if k.state ≠ .stopped ∨ k.heldBank ≠ none ∨ k.order ≠ none ∨ k.stopPending = true then c
  else if ∃ p ∈ k.inlet, p < 2000 then { c with sched := { k with state := .starved } }
  else match k.queue.find? fun b => decide (b.val < c.alloc.bankCount) && (c.bank b).state == .idle with
    | none => c
    | some b =>
      if c.alloc.precoolList ≠ [] ∨ c.alloc.free < load then { c with
        alloc := { c.alloc with compressorClaim := some b }
        sched := { k with state := .waitCooling, refillBank := some b, claimPending := some b } }
      else
        let r := c.bank b
        let tag := (c.port plantPort).tagCounter
        { ((c.orders plantPort 0x50 ([BitVec.ofNat 8 (b.val + 1), 0x07, 0x01, r.generation + 1] ++
            octets 3 (c.store.settings.banks.tierMaximum.of r.tier))).orders plantPort 0x51
              [0x01, BitVec.ofNat 8 (b.val + 1)]) with
          alloc := { c.alloc with
            banks := c.alloc.banks.set b (r.granted .compressor tag c.orderTime)
            compressorReservation := load, compressorHeld := true, compressorClaim := none }
          sched := { k with
            state := .starting, refillBank := some b, heldBank := some ⟨b, false⟩, claimPending := none
            runConfirmed := false, valveOpen := false, order := some ⟨.start, some b, tag + 1, some c.orderTime⟩ } }

/-- A compressor that may claim: it holds no reservation, and the head of the precool list does not fit, so that a pass
grants nothing (R51). -/
abbrev Controller.mayAttempt (c : Controller) : Prop :=
  c.alloc.compressorHeld = false ∧ (c.sched.claimPending = none ∧ c.alloc.compressorClaim = none) ∧
    ∀ e ∈ c.alloc.precoolList.head?, c.alloc.free < e.amount

/-- R33, R66, R68: what one entry of a BANK_SAMPLE leaves, where nobody waits for a bank and no refill is served by the
bank it names, nor a claim made for it: the sample stored, the bank off the queue at or above its stop threshold, on
it below its start threshold, and a start attempt for a bank that joins and for a queued one that is IDLE. An entry
that names no configured bank leaves all as it was. -/
def Controller.sampledBank (c : Controller) (e : SampleEntry) : Controller :=
  match allBanks.find? fun b => decide (e.bank.toNat = b.val + 1 ∧ b.val < c.alloc.bankCount) with
  | none => c
  | some b =>
    let r := c.bank b
    let g := c.store.settings.banks
    let pressure := min e.pressure.toNat 120000
    let stored := c.setBank b { r with
      pressure := some pressure, temperature := some (max (-600) (min 1500 e.temperature.toInt)) }
    let rank := fun u => (c.bank u).tier.rank
    let queue := c.sched.queue
    if g.stopThreshold.of r.tier ≤ pressure then
      { stored with sched := { c.sched with queue := queue.filter fun u => u != b } }
    else if pressure < g.startThreshold.of r.tier ∧ b ∉ queue ∧ r.state ≠ .isolated then
      { stored with sched := { c.sched with
        queue := queue.takeWhile (fun u => rank b ≤ rank u) ++ b ::
          queue.dropWhile fun u => rank b ≤ rank u } }.attempts
    else if b ∈ queue ∧ r.state = .idle then stored.attempts else stored

/-! ## Meter counts -/

/-- R134: a record with a mass added to it and to its newest segment. -/
def Record.metering (q : Record) (mass : Nat) : Record :=
  if q.segments = [] then q else { q with
    metered := q.metered + mass
    segments := q.segments.dropLast ++
      (q.segments.getLast?.map fun g : Segment => { g with mass := g.mass + mass }).toList }

/-- R134, R135, R139: in METERING, the count `count` taken after the reference `old` for the fill at nozzle `n`: a
plausible rise adds its mass to the record, and at the stop threshold the report is made once; another raises the
implausible counter and marks the record rebased, and the third makes the fault report. -/
def Controller.counted (c : Controller) (n : Nozzle) (a : Authorisation) (r : Record) (f : FillLimits)
    (old count : BitVec 16) : Controller :=
  let m := c.meter n
  let g := c.store.settings.meter
  let rise := (count.toNat + 65536 - old.toNat) % 65536
  let mass := rise * g.kFactor[n]
  let full := 0 < mass ∧ f.threshold ≤ r.metered + mass ∧ m.stopReported = false
  if rise ≤ g.maxPulses[n] ∧ r.metered + mass < 2 ^ 48 then { c with
    meters := c.meters.set n { m with
      reference := some count, implausible := 0, stopReported := m.stopReported || decide full
      stopReport := if full then some f.kind else m.stopReport }
    ring := { c.ring with records := changed a.seq (fun q => q.metering mass) c.ring.records } }
  else { c with
    meters := c.meters.set n { m with
      reference := some count, implausible := if m.implausible < 3 then m.implausible + 1 else m.implausible
      faultReport := m.faultReport || m.implausible == 2 }
    ring := { c.ring with records := changed a.seq (fun q => { q with rebased := true }) c.ring.records } }

end Sys2Proof.Machine
end

