-- ==== Sys2Proof/Certificates/Slice0/Obligations.lean ====
section
/-! DEFINITION. The statements for the provers. Each docstring names the rules of spec/ a statement formalises, and the
log entry where it rests on a choice of the model. -/

open Sys2Proof Sys2Proof.Machine

/-! ## The step and the state after reset -/

/-- A step at a non-empty queue is the command at its front, run on the controller with the queue's rest. -/
def Obligations.step_runs_the_front_command : Prop :=
  ∀ (i : Instr) (rest : List Instr) (c : Controller), step ⟨i :: rest, c⟩ = exec i ⟨rest, c⟩

/-- R27, R29: a controller without core supply, or in reset, takes no command but those of its supplies, its reset
input and its clock; every other command answers the state it found. -/
def Obligations.stopped_controller_does_nothing : Prop :=
  ∀ (i : Instr) (s : State), s.ctl.running = false →
    i ≠ .powerUp → i ≠ .resetAssert → i ≠ .resetRelease → i ≠ .clockSecond → i ≠ .coreSupplyLoss true →
    i ≠ .coreSupplyLoss false → i ≠ .retainedDomainSupplyLoss → exec i s = .next s

/-- R30, R1, R31, R47, R65, R80, R93, R132, R147: what the state after reset holds. That reset is the state a cold
start at power-up leaves is the model's choice (log entry 1). The state after reset meets every invariant that a step
keeps. -/
def Obligations.reset_is_a_cold_start : Prop :=
  (let c := State.reset.ctl
   State.reset.pending = [] ∧ c.pendingStart = none ∧
     (∀ p, (c.port p).service = .inService ∧ (c.port p).link = .down ∧ (c.port p).inbound = [] ∧
       (c.port p).outbound = [] ∧ (c.port p).orderHold = [] ∧ (c.port p).tagCounter = 0) ∧
     c.store.clock = 0 ∧ c.store.clockSet = false ∧ c.store.metrologyLock = false ∧ c.store.marker = true ∧
     c.store.crcMatches = true ∧ c.alloc.bankCount = 9 ∧ c.alloc.capacity = 100 ∧ c.alloc.sum = 0 ∧
     (∀ b, (c.bank b).state = .idle ∧ (c.bank b).holder = none ∧ (c.bank b).generation = 0 ∧
       (c.bank b).pressure = none) ∧
     c.sched.state = .stopped ∧ c.sched.queue = [] ∧ c.sched.stallCount = 0 ∧ c.thermal.precoolClass = .noClass ∧
     c.thermal.condition = .unknown ∧ c.thermal.band = 7 ∧
     (∀ n, (c.ctx n).state = .idle ∧ (c.ctx n).auth = none ∧ (c.meter n).reference = none ∧
       (c.meter n).metering = false) ∧
     c.stationTotal = 0 ∧ c.active = Vector.replicate 8 0 ∧ c.pendingTariff = none ∧ c.ring.records = [] ∧
     c.ring.nextSeq = 1) ∧
  (let c := State.reset.ctl
   c.queuesFit ∧ c.linesServed ∧ c.reservationsFit ∧ c.holdersAgree ∧ c.recordsWhole ∧ c.ring.isWindow ∧
     c.totalsAgree ∧ c.targetsFit ∧ c.lockGuards ∧ c.contextsAgree)

/-! ## Invariants that every step keeps -/

/-- R1, R9, R14, R15: every step keeps the inbound queues within 8 telegrams, and the outbound queues within 12 and in
order of priority; orders are held only behind a full queue, and no place stays kept for an answer. And it leaves no
line of a running controller idle while a telegram waits in its outbound queue (log entry 16: a transmission begins at
the end of the step that places its telegram). -/
def Obligations.step_keeps_queues : Prop :=
  (∀ (s t : State), s.ctl.queuesFit → step s = .next t → t.ctl.queuesFit) ∧
  (∀ (s t : State), s.ctl.queuesFit → (s.ctl.running = true → s.ctl.linesServed) → step s = .next t →
      t.ctl.running = true →
     t.ctl.linesServed)

/-- R48: the sum of all precool reservations never exceeds the capacity in force. -/
def Obligations.step_keeps_reservations : Prop :=
  ∀ (s t : State), s.ctl.reservationsFit → step s = .next t → t.ctl.reservationsFit

/-- R34: after every step a bank in DRAWING has a nozzle as its holder, a bank in REFILLING the compressor, and a bank
in IDLE or ISOLATED none. -/
def Obligations.step_keeps_holders : Prop :=
  ∀ (s t : State), s.ctl.holdersAgree → step s = .next t → t.ctl.holdersAgree

/-- R134, R148, R140: after every step the segment masses of each record held sum to its metered mass, and the billing
of each CLOSED record is whole. -/
def Obligations.step_keeps_records_whole : Prop :=
  ∀ (s t : State), s.ctl.recordsWhole → step s = .next t → t.ctl.recordsWhole

/-- R147, R149: after every step the records held number at most 64 and carry consecutive sequence numbers up to the
newest allocated. -/
def Obligations.step_keeps_the_window : Prop :=
  ∀ (s t : State), s.ctl.ring.isWindow → step s = .next t → t.ctl.ring.isWindow

/-- R141: every step keeps the station totaliser equal to the sum of the nozzle totalisers, in 48 bits. -/
def Obligations.step_keeps_totals : Prop :=
  ∀ (s t : State), s.ctl.totalsAgree → step s = .next t → t.ctl.totalsAgree

/-- R95, R96, R112, R128, R94: every step keeps a context's authorisation with its state, its hold causes with RAMPING
and HOLD, and its tank temperature and vehicle flags absent while vehicle data present is clear. R106, R108, R109: and
a leak-check phase stands in LEAK_CHECK alone; that the entry to ENDING clears the phase, and the dispenser's loss too,
is deduced (log entry 26). R119, R123: after every step no target pressure lies above the end pressure of the ramp
entry in use. -/
def Obligations.step_keeps_contexts : Prop :=
  (∀ (s t : State), s.ctl.contextsAgree → step s = .next t → t.ctl.contextsAgree) ∧
  (∀ (s t : State), s.ctl.targetsFit → step s = .next t → t.ctl.targetsFit)

/-- R23, R27, R28: every step keeps a pending cold start away from a metrology lock that is set. R23, R26, R28: only a
cold start taken at a power-up clears the metrology lock, and only where the validity marker or the settings CRC is
bad. -/
def Obligations.metrology_lock_falls_at_power_up_alone : Prop :=
  (∀ (s t : State), s.ctl.lockGuards → step s = .next t → t.ctl.lockGuards) ∧
  (∀ (i : Instr) (s t : State), s.ctl.lockGuards → s.ctl.store.metrologyLock = true → exec i s = .next t →
     t.ctl.store.metrologyLock = false →
     i = .powerUp ∧ s.ctl.corePowered = false ∧ (s.ctl.store.marker && s.ctl.store.crcMatches) = false)

/-! ## Rules of the whole machine -/

/-- R18, R20, R30: the settings change at a WRITE_SETTINGS alone, or become the defaults at a cold start. R24, R25,
R30: the station clock changes at a clock second, at a SET_CLOCK or at a cold start, and at nothing else. -/
def Obligations.retained_values_change_at_their_commands : Prop :=
  (∀ (i : Instr) (s t : State), exec i s = .next t → t.ctl.store.settings ≠ s.ctl.store.settings →
     (∃ p tag g l r, i = .writeSettings p tag g l r) ∨ t.ctl.store = coldStore) ∧
  (∀ (i : Instr) (s t : State), exec i s = .next t → t.ctl.store.clock ≠ s.ctl.store.clock →
     (i = .clockSecond ∧ t.ctl.store.clock = s.ctl.store.clock + 1) ∨
       (∃ p tag v, i = .setClock p tag v ∧ t.ctl.store.clock = v) ∨ t.ctl.store = coldStore)

/-- R149, R155: a record held stays held, under its number, through every command but an ACKNOWLEDGE and a cold start;
and an OPEN record stays held through an ACKNOWLEDGE too. -/
def Obligations.records_leave_at_acknowledge_alone : Prop :=
  ∀ (i : Instr) (s t : State) (r : Record), exec i s = .next t → r ∈ s.ctl.ring.records → t.ctl.ring ≠ coldRing →
    r.closed = false ∨ (∀ p tag seq, i ≠ .acknowledge p tag seq) → r.seq ∈ t.ctl.ring.records.map Record.seq

/-! ## Encodings -/

/-- Sections 12.1 and 12.2: the telegram of every well-formed telegram command is of a permitted kind and length, and
decodes to that command, every operand at every value. Sections 12.1 and 12.2: the command decoded from a telegram is
well formed and is encoded by that telegram: no bit of a body is dropped, and no two telegrams at a port decode to one
command. That a WRITE_SETTINGS and a BANK_SAMPLE may carry octets beyond their last whole entry is the model's choice
(log entry 8). -/
def Obligations.telegrams_and_commands_agree : Prop :=
  (∀ (i : Instr) (p : PortId) (t : Telegram), i.wellFormed = true → telegramOf i = some (p, t) →
     t.permitted = true ∧ commandOf p t = some i) ∧
  (∀ (p : PortId) (t : Telegram) (i : Instr), commandOf p t = some i →
     i.wellFormed = true ∧ telegramOf i = some (p, t))

/-- R20, R162: a value within its entry's range is carried back as it was written, but for a P_end above its class
maximum, which is carried back as that maximum; every other entry is carried back as it stood. -/
def Obligations.written_setting_is_carried_back : Prop :=
  ∀ (s : Settings) (k j : SettingKey) (v : BitVec 32), k.admits v = true →
    (s.write k v).carried j =
      if j = k then
        match k with
        | .rampEnd i => BitVec.ofNat 32 (min v.toNat (if i.val < 24 then 43750 else 87500))
        | _ => v
      else s.carried j

/-! ## Arithmetic and tables -/

/-- R138: b_stop is the largest mass whose rounded charge does not exceed the money limit, where that lies below the
class maximum; b_lim takes the mass limit too; and the stop threshold lies V_min above b_lim. R140: the charge of a
mass within the billing limit does not exceed the money limit. -/
def Obligations.fill_limits_bound_the_charge : Prop :=
  (∀ (l p c vMin b : Nat) (m : Option Nat),
     let f := fillLimits l m p c vMin
     (b ≤ f.bStop ↔ (b * p + 50000) / 100000 ≤ l ∧ b ≤ c) ∧ (b ≤ f.bLim ↔ b ≤ f.bStop ∧ ∀ k ∈ m, b ≤ k) ∧
       f.threshold = f.bLim + vMin ∧ (f.kind = .money ↔
         (0 < p ∧ ((l + 1) * 100000 - 50001) / p ≤ c ∧ ∀ k ∈ m, ((l + 1) * 100000 - 50001) / p ≤ k))) ∧
  (∀ (r : Record) (v c vMin : Nat) (time : BitVec 32),
     let q := r.billedAs v (fillLimits r.moneyLimit r.massLimit r.price c vMin).bLim time
     q.charge ≤ r.moneyLimit ∧ q.billed + q.unbilled = q.billable ∧ q.billable = r.metered - v ∧
       (∀ k ∈ r.massLimit, q.billed ≤ k) ∧ q.billed ≤ c)

/-- R149: successors, forward distances, and which sequence numbers are held, beyond the newest, or older than the
oldest: walking `d` successors from a number gives the number at forward distance `d`. -/
def Obligations.sequence_numbers : Prop :=
  ∀ (x d : Nat), 1 ≤ x → x ≤ 4294967295 → d < 4294967295 →
    let y := (x + d - 1) % 4294967295 + 1
    forwardDistance x y = d ∧ succSeq y = (x + d) % 4294967295 + 1 ∧
      (∀ r : Ring, r.oldest = x → (r.isHeld y = true ↔ d < r.records.length)) ∧
      (∀ r : Ring, r.nextSeq = x → r.isHeld y = false →
        (r.isBeyond y = true ↔ 0 < r.records.length ∧ d < 2147483648))

/-- R14, R15: a telegram enters an outbound queue behind every telegram of its priority or a higher one, and before
every telegram of a lower one. R15: the three placements at a port with no place kept for an answer. -/
def Obligations.outbound_telegrams_are_placed : Prop :=
  (∀ (t : Telegram) (q : List Telegram), (q.map Telegram.priority).Pairwise (· ≥ ·) →
     enqueue t q = (q.filter fun u => t.priority ≤ u.priority) ++ t :: (q.filter fun u => u.priority < t.priority)) ∧
  (∀ (r : PortRec) (t : Telegram), r.answerPlace = false → r.outbound.length ≤ 12 →
     (r.outbound.length < 12 → r.orderHold = [] →
       r.placeOrder t = { r with outbound := enqueue t r.outbound } ∧
       r.placeNotice t = ({ r with outbound := enqueue t r.outbound }, true)) ∧
     (r.orderHold ≠ [] → r.placeOrder t = { r with orderHold := r.orderHold ++ [t] } ∧
       (t.kind ≠ 0x61 → r.placeNotice t = (r, false))) ∧
     (∀ u q, r.orderHold = [] → r.outbound = q ++ [u] → q.length = 11 →
       r.placeOrder t = (if u.priority = 0 then { r with outbound := enqueue t q } else { r with orderHold := [t] }) ∧
       (t.kind ≠ 0x61 → r.placeNotice t = (r, false))) ∧
     (∀ u l m, r.outbound = l ++ u :: m → u.kind = 0x61 → (∀ x ∈ l, x.kind ≠ 0x61) → t.kind = 0x61 →
       r.outbound.length = 12 → r.placeNotice t = ({ r with outbound := enqueue t (l ++ m) }, true)))

/-! ## Storage: the scan and the release -/

/-- R55: whether a bank qualifies rests on its tier and its pressure alone: the tier is allowed for the class, stands
at the floor or above it, and the pressure is known and reaches the required pressure; state, temperature and
generation do not bear on it. R56: the bank a scan takes for an entry: an IDLE configured bank that qualifies, of the
lowest tier of which there is one, in that tier of the highest pressure, and of these the lowest number; none only
where no such bank is. -/
def Obligations.scan_takes_the_best_bank : Prop :=
  (∀ (r : BankRec) (k : BankClaim),
     qualifies r k = true ↔ (k.vclass = .hp ∨ r.tier ≠ .high) ∧ k.floor.rank ≤ r.tier.rank ∧
       ∃ p, r.pressure = some p ∧ k.required ≤ p) ∧
  (∀ (c : Controller) (k : BankClaim),
     let fits := fun b => c.configured b = true ∧ (c.bank b).state = .idle ∧ qualifies (c.bank b) k = true
     (c.chooseBank k = none ↔ ∀ b, ¬ fits b) ∧
       (∀ b, c.chooseBank k = some b → fits b ∧ ∀ d, fits d → (c.bank b).tier.rank ≤ (c.bank d).tier.rank ∧
         ((c.bank b).tier = (c.bank d).tier → (c.bank d).pressure.getD 0 ≤ (c.bank b).pressure.getD 0 ∧
           ((c.bank b).pressure = (c.bank d).pressure → b ≤ d))))

/-- R41: the release of a bank, by its record: no change for a requester that is not the holder, for a CLOSE in flight
and for a release already pending; release pending for an OPEN in flight; else a BANK_VALVE CLOSE for the same route
and generation. -/
def Obligations.bank_release : Prop :=
  ∀ (c : Controller) (b : BankId) (h : Holder), c.room plantPort → (c.port plantPort).answerPlace = false →
    let r := c.bank b
    c.releaseBank b h =
      if r.holder ≠ some h then c
      else match r.order, r.releasePending with
        | some o, false => if o.action = .opened then c.setBank b { r with releasePending := true } else c
        | _, true => c
        | none, false =>
          let sent : Telegram := ⟨0x50, (c.port plantPort).tagCounter,
            [BitVec.ofNat 8 (b.val + 1), h.code, 0x02, r.generation, 0, 0, 0]⟩
          let port := { c.port plantPort with tagCounter := (c.port plantPort).tagCounter + 1 }
          (c.setPort plantPort (match port.link with
            | .up => { port with outbound := enqueue sent port.outbound }
            | .down => port)).setBank b
              { r with order := some ⟨.closed, sent.tag, h, r.generation, some c.orderTime⟩ }

/-! ## Links: octets, telegrams, transmission, HELLO and STATUS -/

/-- R3: an octet that completes no telegram: what the assembly becomes, its gap timer restarted where the octet joins;
and the gap timeout, which empties it. R3, R4, R9, R160: the octets of a valid telegram at an empty assembly. At a port
that is UP the link timer restarts at 3.0 s and the telegram is offered to the inbound queue; at one that is DOWN a
HELLO alone is offered. A full queue answers a request BUSY and discards a report. R3: a completed telegram with a
wrong CRC, an undefined kind or a body length its kind does not permit is discarded without an answer. -/
def Obligations.telegrams_are_received : Prop :=
  (∀ (s : State) (p : PortId) (o : Octet), s.ctl.atRest → (s.ctl.port p).incomplete = true →
     let r := s.ctl.port p
     let joined := { r with assembly := r.assembly ++ [o], gapTimer := some 2 }
     exec (.octetArrival p o) s = .next (s.withCtl (s.ctl.setPort p (match r.assembly with
       | [] => if o = 0x7E then joined else r
       | [_] => if 120 < o.toNat then { r with assembly := [], gapTimer := none } else joined
       | _ => joined))) ∧
     exec (.receiveGapTimeout p) s =
       .next (s.withCtl (s.ctl.setPort p { r with assembly := [], gapTimer := none }))) ∧
  (∀ (s : State) (p : PortId) (t : Telegram), s.ctl.atRest → (s.ctl.port p).assembly = [] → t.permitted = true →
      (s.ctl.port p).queuesFit →
     let r := { s.ctl.port p with gapTimer := none }
     exec (.telegramArrival p t.frame) s = .next (s.withCtl (s.ctl.setPort p (match r.link with
       | .up => { r with linkTimer := some 3000 }.queued t
       | .down => if t.kind = 0x01 then r.queued t else r)))) ∧
  (∀ (s : State) (p : PortId) (kind tag c1 c2 : Octet) (body : List Octet), s.ctl.atRest →
     (s.ctl.port p).assembly = [] → body.length ≤ 120 →
     (Telegram.permitted ⟨kind, tag, body⟩ = false ∨
       [c1, c2] ≠ octets 2 (crc16 (BitVec.ofNat 8 body.length :: kind :: tag :: body)).toNat) →
     exec (.telegramArrival p (0x7E :: BitVec.ofNat 8 body.length :: kind :: tag :: body ++ [c1, c2])) s =
       .next (s.withCtl (s.ctl.setPort p { s.ctl.port p with gapTimer := none })))

/-- R4, R10: the command of a telegram that stands in no queue, at a port that is UP with an empty inbound queue, is
the command of that telegram at the head of the queue, with the link timer restarted. That one command takes both the
arrival and the dispatch is the model's choice (log entry 2). -/
def Obligations.command_brings_its_telegram : Prop :=
  ∀ (i : Instr) (s : State) (p : PortId) (t : Telegram), s.ctl.atRest → telegramOf i = some (p, t) →
    t.permitted = true → (s.ctl.port p).link = .up → (s.ctl.port p).inbound = [] →
    exec i s = exec i (s.withCtl (s.ctl.setPort p { s.ctl.port p with inbound := [t], linkTimer := some 3000 }))

/-- R6, R7: the expiry of the link timer of the till port, or of a dispenser port whose nozzle is IDLE, takes the port
DOWN with its queues, hold and assembly emptied and its tag counter kept; a stopped timer does not expire. R114: the
loss of a dispenser port makes a CONNECTED or COMPLETE nozzle IDLE; it closes a fill in AUTHORISED or WAIT_RESOURCES
without flow (R96), and one in LEAK_CHECK to ENDING at once: orders, timers and authorisation gone, its bank's release
asked for, its record closed, FILL_ENDED handed to the till, behind a RECORDS_READY where one is due (R154). R7, R46,
R63, R79: the expiry of the plant port's link timer: the port falls, every configured bank loses its holder, its order
and its pressure, the account is emptied, and the Scheduler stops, FAULTED kept. R115, R131: release outstanding leaves
every context and PLANT_PAUSE every fill, the pause over; fills in AUTHORISED and WAIT_RESOURCES are closed without
flow, those with flow enter ENDING with PLANT_LINK and no bank (R110), and one in ENDING has its bank settled, which may
close it (R112); each fill with flow hands its dispenser the order of R110, and no other dispenser is sent one. The loss
clears the leak-check phase of a fill in LEAK_CHECK, at either port, and PLANT_PAUSE leaves a fill in ENDING too: both
are deduced (log entries 26 and 27). (The records are stated for one fill; that the contexts are taken in the order of
their nozzles is the model's choice, log entry 42.) -/
def Obligations.links_are_lost : Prop :=
  (∀ (s : State) (p : PortId), s.ctl.atRest → p ≠ plantPort →
     (∀ n, nozzleOfPort p = some n → (s.ctl.ctx n).state = .idle) →
     exec (.linkTimeout p) s =
       if (s.ctl.port p).linkTimer.isSome then .next (s.withCtl (s.ctl.setPort p (s.ctl.port p).fallen)) else .next s) ∧
  (∀ (s : State) (n : Nozzle) (a : Authorisation) (r : Record) (f : FillLimits), s.ctl.atRest →
     (s.ctl.port (portOfNozzle n)).linkTimer.isSome = true →
     let c := s.ctl
     let x := c.ctx n
     let p := portOfNozzle n
     let down := c.setPort p (c.port p).fallen
     let off := { x with state := .idle, connected := false, auth := none }
     (x.state = .connected ∨ x.state = .complete → exec (.linkTimeout p) s =
       .next (s.withCtl { down with contexts := c.contexts.set n off })) ∧
     (c.calm → c.hasFill n a r f →
       (x.state = .authorised ∨ x.state = .waitResources → ∃ t, exec (.linkTimeout p) s = .next t ∧
         { down with contexts := c.contexts.set n { x with connected := false } }.closesFill t.ctl n a r f
           .dispenserLink) ∧
       (x.state = .leakCheck ∨ x.state = .ramping ∨ x.state = .hold ∨ x.state = .ending →
         let cut := fun q : Record =>
           let left : Record := match x.currentBank with
             | some b => q.closing (c.bank b.bank).pressure
             | none => q
           let ended : Record := { left with
             endReason := if x.state = .ending then q.endReason else some .dispenserLink
             endPressure := if q.flowStart.isSome ∧ q.endPressure = none then some x.measured else q.endPressure
             ventUnconfirmed := true }
           ended.billedAs (c.store.settings.meter.ventFor ended.nozzle ended.endPressure) f.bLim c.store.clock
         ∃ t, exec (.linkTimeout p) s = .next t ∧ t = s.withCtl { c with
           ports := t.ctl.ports
           contexts := c.contexts.set n { off with
             flowOrder := none, ventOrder := none, phase := none, leakTimer := none, sensitive := .over
             rampTimer := none, progressTimer := none, connectWait := none, resourceWait := none
             holdTimer := { x.holdTimer with running := false }
             endReason := if x.state = .ending then x.endReason else some .dispenserLink
             currentBank := none, lastBank := if x.currentBank = none then x.lastBank else x.currentBank
             releaseOutstanding := x.releaseOutstanding || x.currentBank.isSome }
           alloc := { c.alloc.without n with banks := match x.currentBank with
             | some b => (c.alloc.without n).banks.set b.bank
                 ((c.alloc.without n).banks[b.bank].released (.nozzle n) (c.port plantPort).tagCounter c.orderTime)
             | none => (c.alloc.without n).banks }
           meters := c.meters.set n (c.meter n).closed
           stationTotal := (c.stationTotal + r.metered) % 2 ^ 48
           nozzleTotals := c.nozzleTotals.set n ((c.nozzleTotals[n] + r.metered) % 2 ^ 48)
           ring := { c.ring with
             records := changed a.seq cut c.ring.records
             noticeOwed := t.ctl.ring.noticeOwed, pacing := t.ctl.ring.pacing } } ∧
           t.ctl.port p = (c.port p).fallen ∧ down.endIsTold t.ctl n (cut r) ∧
           (c.room plantPort → t.ctl.port plantPort = (c.freesBank n).port plantPort) ∧
           ∀ q, q ≠ p → q ≠ plantPort → q ≠ tillPort → t.ctl.port q = c.port q))) ∧
  (∀ (s : State), s.ctl.atRest → (s.ctl.port plantPort).linkTimer.isSome = true → s.ctl.pendingStart = none →
     (∀ m, (s.ctl.ctx m).state = .idle ∨ (s.ctl.ctx m).state = .connected ∨ (s.ctl.ctx m).state = .complete) →
     let c := s.ctl
     exec (.linkTimeout plantPort) s = .next (s.withCtl { (c.setPort plantPort (c.port plantPort).fallen) with
       alloc := c.alloc.fallen, sched := c.sched.fallen, pauseTimer := none
       contexts := Vector.ofFn fun m => { c.ctx m with releaseOutstanding := false } })) ∧
  (∀ (s : State), s.ctl.atRest → (s.ctl.port plantPort).linkTimer.isSome = true → s.ctl.pendingStart = none →
     (∀ b : BankId, s.ctl.alloc.bankCount ≤ b.val → (s.ctl.bank b).nextHolder = none) →
     let c := s.ctl
     ∃ t, exec (.linkTimeout plantPort) s = .next t ∧
       t.ctl.alloc = c.alloc.fallen ∧ t.ctl.sched = c.sched.fallen ∧ t.ctl.pauseTimer = none ∧
       t.ctl.port plantPort = (c.port plantPort).fallen ∧
       ∀ n : Nozzle,
         let x := (c.ctx n).plantLost
         let gone := { x with
           currentBank := none, lastBank := if x.currentBank = none then x.lastBank else x.currentBank }
         t.ctl.ctx n = (match x.state with
           | .authorised | .waitResources => { x with
             connectWait := none, resourceWait := none, endReason := some .plantLink, auth := none
             state := if x.connected then .connected else .idle }
           | .leakCheck | .ramping | .hold =>
             gone.endedWith .plantLink (c.port (portOfNozzle n)).tagCounter c.orderTime
           | .ending => if x.ventSettled then { gone with
               bankSettled := true, progressTimer := none, state := if x.hangSeen then .idle else .complete
               auth := if x.hangSeen then none else x.auth }
             else { gone with bankSettled := true }
           | _ => x) ∧
         (x.state = .leakCheck ∨ x.state = .ramping ∨ x.state = .hold → c.room (portOfNozzle n) →
           t.ctl.port (portOfNozzle n) = (c.endOrders n).port (portOfNozzle n)) ∧
         (x.state = .idle ∨ x.state = .connected ∨ x.state = .complete ∨ x.state = .ending ∧ x.ventSettled = false →
           t.ctl.port (portOfNozzle n) = c.port (portOfNozzle n))) ∧
  (∀ (s : State) (n : Nozzle) (a : Authorisation) (r : Record) (f : FillLimits), s.ctl.atRest →
     (s.ctl.port plantPort).linkTimer.isSome = true → s.ctl.pendingStart = none → s.ctl.hasFill n a r f →
     (∀ m, m ≠ n → (s.ctl.ctx m).state = .idle ∨ (s.ctl.ctx m).state = .connected ∨ (s.ctl.ctx m).state = .complete) →
     let c := s.ctl
     let x := c.ctx n
     let cleared := { (c.setPort plantPort (c.port plantPort).fallen) with
       alloc := c.alloc.fallen, sched := c.sched.fallen, pauseTimer := none
       contexts := Vector.ofFn fun m => (c.ctx m).plantLost }
     let gone := { cleared with contexts := cleared.contexts.set n { cleared.ctx n with
       currentBank := none, lastBank := if x.currentBank = none then x.lastBank else x.currentBank } }
     let settled := { gone with contexts := gone.contexts.set n { gone.ctx n with bankSettled := true } }
     ∃ t, exec (.linkTimeout plantPort) s = .next t ∧
       (x.state = .authorised ∨ x.state = .waitResources → cleared.closesFill t.ctl n a r f .plantLink) ∧
       (x.state = .leakCheck ∨ x.state = .ramping ∨ x.state = .hold → gone.endsFill t.ctl n .plantLink) ∧
       (x.state = .ending →
         (x.ventSettled = true → settled.fillCloses t.ctl n a r f ∧ settled.endIsTold t.ctl n
           (r.billedAs (c.store.settings.meter.ventFor r.nozzle r.endPressure) f.bLim c.store.clock)) ∧
         (x.ventSettled = false → t = s.withCtl settled)))

/-- R14, R15: the end of a transmission frees the line for the head of the outbound queue, whose place the oldest held
order takes; an idle line has no transmission to end. -/
def Obligations.transmission_ends : Prop :=
  ∀ (s : State) (p : PortId), s.ctl.atRest → (s.ctl.pendingStart = none ∨ p ≠ plantPort) →
    exec (.transmissionEnd p) s =
      if (s.ctl.port p).line = none then .next s else .next (s.withCtl (s.ctl.setPort p (s.ctl.port p).lineFreed))

/-- R5: a HELLO is answered with the port, its role and its nozzle: STATE at an UNUSED port, ROLE where role or nozzle
differ from the port's, and otherwise OK, a port that was DOWN going UP with its link timer at 3.0 s. R5, R154: one that
brings the till port UP judges the notice: owed from then on where a CLOSED record is held, it waits for the pacing
timer that runs; with none running it is dropped where no CLOSED record is held, and else the HELLO is answered, a
RECORDS_READY with the oldest held and the newest closed number follows, and the pacing timer starts. That the answer
goes before RECORDS_READY on an idle line is deduced (log entry 16). -/
def Obligations.hello_is_answered : Prop :=
  (∀ (s : State) (p : PortId) (tag role nozzle : Octet) (rest : List Telegram), s.ctl.atRest →
     s.ctl.asked p ⟨0x01, tag, [role, nozzle]⟩ rest →
     let ring := s.ctl.ring
     let own : Octet := if p.val ≤ 1 then 0 else BitVec.ofNat 8 (p.val - 1)
     let fits := role = (roleOf p).code ∧ nozzle = own
     let result : Octet := if (s.ctl.port p).service = .unused then 0x03 else if fits then 0x00 else 0x02
     let rises := result = 0x00 ∧ (s.ctl.port p).link = .down
     let risen := if rises then { (s.ctl.setPort p { s.ctl.port p with link := .up, linkTimer := some 3000 }) with
       ring := if p = tillPort then { ring with noticeOwed := ring.pacing.isSome && (ring.noticeOwed || ring.holdsClosed) }
         else ring } else s.ctl
     (p = tillPort → rises → ring.holdsClosed = true → ring.pacing.isSome = true) → exec (.hello p tag role nozzle) s =
       .next (s.withCtl (risen.answered p rest ⟨0x81, tag, [result, BitVec.ofNat 8 p.val, (roleOf p).code, own]⟩))) ∧
  (∀ (s : State) (tag : Octet) (rest : List Telegram), s.ctl.atRest →
     s.ctl.asked tillPort ⟨0x01, tag, [0x02, 0x00]⟩ rest → (s.ctl.port tillPort).outbound.length < 11 →
     (s.ctl.port tillPort).service = .inService → (s.ctl.port tillPort).link = .down →
     s.ctl.ring.holdsClosed = true → s.ctl.ring.pacing = none →
     let c := s.ctl
     exec (.hello tillPort tag 0x02 0x00) s = .next (s.withCtl
       { (((c.setPort tillPort { c.port tillPort with link := .up, linkTimer := some 3000 }).answered tillPort rest
           ⟨0x81, tag, [0x00, 0x01, 0x02, 0x00]⟩).notices tillPort 0x63
             (octets 4 c.ring.oldest ++ octets 4 c.ring.newestClosed)) with
         ring := { c.ring with noticeOwed := false, pacing := some (c.store.settings.links.pacing * 100) } }))

/-- R17, R161: a STATUS changes no state but its port's queues. A part octet of 1 selects part 1, any other or none
part 0; the parts hold the fields of their layouts, most significant octet first. -/
def Obligations.status_is_gathered : Prop :=
  ∀ (s : State) (p : PortId) (tag : Octet) (part : Option Octet) (rest : List Telegram), s.ctl.atRest →
    s.ctl.asked p ⟨0x02, tag, partField part⟩ rest →
    let c := s.ctl
    let part0 := (allNozzles.flatMap fun n =>
        [(c.ctx n).state.code, (c.ctx n).vclass.code, (c.ctx n).causes.octet, endReasonCode (c.ctx n).endReason] ++
          octets 4 (match (c.ctx n).auth with | some a => a.seq | none => 0)) ++
      [c.sched.state.code, BitVec.ofNat 8 c.sched.stallCount, BitVec.ofNat 8 c.alloc.capacity,
        BitVec.ofNat 8 (c.alloc.reservations.toList.sum + c.alloc.compressorReservation),
        BitVec.ofNat 8 c.thermal.band.val, c.thermal.precoolClass.code] ++
      octets 2 ((c.pauseTimer.getD 0 + 999) / 1000) ++
      (List.finRange 8).map (fun q => bit ((c.port q).service == .unused) 0 ||| bit ((c.port q).link == .up) 1) ++
      octets 4 (if c.ring.records = [] then 0 else c.ring.oldest) ++ octets 4 c.ring.newest ++
      octets 6 c.stationTotal ++ allNozzles.flatMap fun n => octets 6 c.nozzleTotals[n]
    let part1 := BitVec.ofNat 8 c.alloc.bankCount ::
      (allBanks.filter fun b => b.val < c.alloc.bankCount).flatMap fun b =>
        [BitVec.ofNat 8 (b.val + 1), (c.bank b).tier.code, (c.bank b).state.code, holderCode (c.bank b).holder,
          (c.bank b).generation] ++ pressureField (c.bank b).pressure
    exec (.status p tag part) s =
      .next (s.withCtl (c.answered p rest ⟨0x82, tag, 0x00 :: if part = some 0x01 then part1 else part0⟩)) ∧
    part0.length = 114 ∧ part1.length = 1 + 8 * (allBanks.filter fun b => b.val < c.alloc.bankCount).length

/-- R10, R11: a request of a kind its port's role may not send is answered ROLE, with zero fields, and carried out no
further; a report or confirmation of such a kind is discarded. (A CANCEL refused is stated apart; a
CLEAR_COMPRESSOR_FAULT carries the compressor's state and stall count in any case.) R99, R11: a CANCEL of a nozzle
number outside 1 to 6 is refused ARGUMENT, one of a nozzle in IDLE, CONNECTED, ENDING or COMPLETE STATE, and one from
another port than the till's ROLE; a nozzle that exists is named in the answer with its state and sequence number 0,
and nothing changes. What a nozzle that does not exist has for a state is a free value (log entry 5). -/
def Obligations.commands_are_refused : Prop :=
  (∀ (i : Instr) (s : State) (p : PortId) (t : Telegram) (rest : List Telegram), s.ctl.atRest →
     telegramOf i = some (p, t) → t.permitted = true → roleMaySend (roleOf p) t.kind = false →
     (t.isRequest = true → t.kind ≠ 0x21 → s.ctl.asked p t rest →
       exec i s = .next (s.withCtl (s.ctl.answered p rest ⟨t.kind + 0x80, t.tag, 0x02 ::
         if t.kind = 0x13 then [s.ctl.sched.state.code, BitVec.ofNat 8 s.ctl.sched.stallCount]
         else List.replicate (refusedLength t) 0⟩))) ∧
     (t.isRequest = false → s.ctl.told p t rest → exec i s = .next (s.withCtl (s.ctl.taken p rest)))) ∧
  (∀ (s : State) (p : PortId) (tag nozzle : Octet) (rest : List Telegram), s.ctl.atRest →
     let c := s.ctl
     c.asked p ⟨0x21, tag, [nozzle]⟩ rest →
     (nozzle.toNat = 0 ∨ 6 < nozzle.toNat → p = tillPort → exec (.cancel p tag nozzle) s = .next (s.withCtl
       ({ c with freeCount := c.freeCount + 1 }.answered p rest
         ⟨0xA1, tag, [0x04, nozzle, Config.freeOctet c.freeCount, 0, 0, 0, 0]⟩))) ∧
     (∀ n : Nozzle, nozzle.toNat = n.val + 1 →
       (p ≠ tillPort → exec (.cancel p tag nozzle) s = .next (s.withCtl
         (c.answered p rest ⟨0xA1, tag, [0x02, nozzle, (c.ctx n).state.code, 0, 0, 0, 0]⟩))) ∧
       (p = tillPort → ((c.ctx n).state = .idle ∨ (c.ctx n).state = .connected ∨ (c.ctx n).state = .ending ∨
           (c.ctx n).state = .complete) → exec (.cancel p tag nozzle) s = .next (s.withCtl
         (c.answered p rest ⟨0xA1, tag, [0x03, nozzle, (c.ctx n).state.code, 0, 0, 0, 0]⟩)))))

/-! ## Settings, locks, clock, starts and supplies -/

/-- R20, R18, R162: a WRITE_SETTINGS that passes its tests: every named entry takes its value, the last occurrence
where it is named more than once, the settings CRC covers the new contents, and the answer carries each entry as now
held. R32: the bank table takes the tiers and the bank count written at once, a bank added or removed at rest with its
generation kept. The hand-overs wait: that they wait for a later command is deduced (log entry 18); that the bank
entries of a write are handed over together, and every other in the order of its last occurrence, is the model's
choice (log entry 28). That the answer carries every entry of the request is the model's choice too (log entry 12),
and so are the octets that may follow the last whole entry (log entry 8) and a settings CRC known by the contents it
covers (log entry 9). R19, R21: the six tests of a WRITE_SETTINGS, in their order: a request that fails one changes no
entry, and is answered with the code of the first that fails. -/
def Obligations.settings_are_written_or_refused : Prop :=
  (∀ (s : State) (tag code : Octet) (g : Group) (l : List SettingEntry) (x : List Octet) (rest : List Telegram),
     s.ctl.atRest → s.ctl.asked plantPort ⟨0x14, tag, code :: l.flatMap SettingEntry.field ++ x⟩ rest →
     Instr.wellFormed (.writeSettings plantPort tag code l x) = true → groupOf code = some g →
     s.ctl.testWrite code l = .ok →
     let c := s.ctl
     let after := c.store.settings.writeAll g (lastOccurrences l)
     exec (.writeSettings plantPort tag code l x) s = .next (s.withCtl
       ({ c with
           store := { c.store with settings := after, settingsCrc := some ⟨after, c.store.locks, c.store.metrologyLock⟩ }
           alloc := c.alloc.rewritten after (keysOf g (lastOccurrences l))
           owed := handOvers c.store.settings after (keysOf g (lastOccurrences l)) }.answered plantPort rest
         ⟨0x94, tag, 0x00 :: writtenBody g after l⟩))) ∧
  (∀ (s : State) (tag code : Octet) (l : List SettingEntry) (x : List Octet) (rest : List Telegram),
     s.ctl.atRest → s.ctl.asked plantPort ⟨0x14, tag, code :: l.flatMap SettingEntry.field ++ x⟩ rest →
     Instr.wellFormed (.writeSettings plantPort tag code l x) = true →
     let c := s.ctl
     let refused := fun why : Octet => (.next (s.withCtl (c.answered plantPort rest
       ⟨0x94, tag, why :: List.replicate (6 * l.length) 0⟩)) : Host.Outcome State Fault Refusal)
     let write := Instr.writeSettings plantPort tag code l x
     match groupOf code with
     | none => exec write s = refused 0x04
     | some g =>
       let used := lastOccurrences l
       let after := c.store.settings.writeAll g used
       (g = .tariffAccess → exec write s = refused 0x04) ∧
       (g ≠ .tariffAccess → (c.store.locks.of g = true ∨ g = .meter ∧ c.store.metrologyLock = true) →
         exec write s = refused 0x05) ∧
       (g ≠ .tariffAccess → c.store.locks.of g = false → (g = .meter → c.store.metrologyLock = false) →
         (used.all (entryAdmitted g after) = false ∨ strictlyRising after.ambient.edges.toList = false ∨
           (∃ n : Nozzle, neverFalling after.meter.vent[n].toList = false) → exec write s = refused 0x04) ∧
         (used.all (entryAdmitted g after) = true → after.consistent = true →
           (∃ k ∈ keysOf g used, c.stateRefuses after k = true) → exec write s = refused 0x03)))

/-- R20, R48, R51: the hand-over of a nominal capacity recomputes the capacity in force, the nominal capacity less the
derate and 0 where the derate is not less; where the reservations still fit, the precool list is served strictly from
its head: each entry that fits becomes its nozzle's reservation, and a fill in HOLD loses DERATE_SHED (R129). R51,
R56: a parked request of the nozzle granted is placed on the bank list, and the scan grants it a bank or leaves it
waiting. R67, R66: the hand-over of the bank entries of a write: every removed bank leaves the refill queue, and each
queued bank of a changed tier leaves and joins again at the tail of its new tier's part; a claim that names a bank
which leaves is withdrawn, and a start attempt follows (R68), as it does a join in STOPPED. R2: that of a service flag
at a port DOWN, and at one UP whose nozzle holds no fill. With no hand-over waiting, nothing happens. That waiting
hand-overs are taken by this command or before any other is deduced (log entry 18), and so is the withdrawal of a
claim for a bank whose tier changes (log entry 34); that the bank entries of one write are one hand-over, all leaving
before any joins, is the model's choice (log entry 28). -/
def Obligations.settings_are_handed_over : Prop :=
  (∀ (s : State), s.ctl.atRest → exec .settingsHandOver s = .next s) ∧
  (∀ (s : State) (l m : List PrecoolClaim), { s.ctl with owed := [] }.atRest →
     s.ctl.owed = [.handOver .nominalCapacity] → s.ctl.alloc.compressorClaim = none →
     let c := s.ctl
     let capacity := c.store.settings.precool.nominal - c.alloc.derate
     let given := (l.map PrecoolClaim.amount).sum
     c.alloc.precoolList = l ++ m → (l.map PrecoolClaim.nozzle).Nodup →
     (∀ e ∈ l, c.reservation e.nozzle = 0 ∧ c.parkedOf e.nozzle = none ∧
       ((c.ctx e.nozzle).state = .leakCheck ∨ (c.ctx e.nozzle).state = .ramping ∨ (c.ctx e.nozzle).state = .hold)) →
     c.alloc.sum + given ≤ capacity → (∀ e ∈ m.head?, capacity < c.alloc.sum + given + e.amount) →
     exec .settingsHandOver s = .next (s.withCtl { c with
       owed := []
       alloc := { c.alloc with
         capacity := capacity, precoolList := m
         reservations := Vector.ofFn fun n => match l.find? fun e => e.nozzle == n with
           | some e => e.amount
           | none => c.alloc.reservations[n] }
       contexts := Vector.ofFn fun n =>
         let x := c.ctx n
         if n ∈ l.map PrecoolClaim.nozzle ∧ x.state ≠ .leakCheck then
           x.withoutCause .derateShed (c.store.settings.ramp.step * 100) else x })) ∧
  (∀ (s : State) (e : PrecoolClaim) (k : BankClaim), { s.ctl with owed := [] }.atRest → s.ctl.roomFor plantPort 1 →
     s.ctl.owed = [.handOver .nominalCapacity] → s.ctl.alloc.compressorClaim = none →
     let c := s.ctl
     let n := e.nozzle
     let x := c.ctx n
     let capacity := c.store.settings.precool.nominal - c.alloc.derate
     c.alloc.precoolList = [e] → c.reservation n = 0 → c.parkedOf n = some k → k.nozzle = n → c.alloc.bankList = [] →
     x.currentBank = none → c.alloc.sum + e.amount ≤ capacity →
     (x.state = .waitResources ∧ x.bankRequestMade = true ∨ x.state = .hold ∧ x.causes.bankSwitch = true) →
     let freed := if x.state = .hold then x.withoutCause .derateShed (c.store.settings.ramp.step * 100) else x
     let granted := { c with
       owed := []
       alloc := { c.alloc with
         capacity := capacity, precoolList := [], reservations := c.alloc.reservations.set n e.amount
         parked := c.alloc.parked.set n none }
       contexts := c.contexts.set n freed }
     exec .settingsHandOver s = .next (s.withCtl (match c.chooseBank k with
       | some b => granted.grants b n
       | none => { granted with alloc := { granted.alloc with bankList := [k] } }))) ∧
  (∀ (s : State) (moved : List BankId), { s.ctl with owed := [] }.atRest → s.ctl.roomFor plantPort 2 →
     s.ctl.owed = [.banksHandedOver moved] →
     let c := s.ctl
     let k := c.sched
     let rejoin := moved.filter fun b => decide (b.val < c.alloc.bankCount ∧ b ∈ k.queue)
     let leaves := fun b : BankId => decide (c.alloc.bankCount ≤ b.val ∨ b ∈ rejoin)
     let queued := { c with owed := [], sched := { k with queue := c.requeued leaves rejoin } }
     ((∀ b ∈ k.claimPending, leaves b = false) → rejoin = [] ∨ k.state ≠ .stopped →
       exec .settingsHandOver s = .next (s.withCtl queued)) ∧
     ({ c with owed := [] }.mayAttempt → rejoin ≠ [] →
       exec .settingsHandOver s = .next (s.withCtl queued.attempts)) ∧
     (∀ b ∈ k.claimPending, leaves b = true → c.alloc.compressorHeld = false →
       (∀ e ∈ c.alloc.precoolList.head?, c.alloc.free < e.amount) →
       exec .settingsHandOver s = .next (s.withCtl { queued with
         alloc := { c.alloc with compressorClaim := none }
         sched := { queued.sched with state := .stopped, claimPending := none, refillBank := none } }.attempts))) ∧
  (∀ (s : State) (n : Nozzle), { s.ctl with owed := [] }.atRest → s.ctl.owed = [.handOver (.serviceFlag n)] →
     let c := s.ctl
     let p := portOfNozzle n
     let r := c.port p
     let x := c.ctx n
     let put := fun q : PortRec => { c with owed := [] }.setPort p q
     (c.store.settings.links.service[n] = .inService →
       exec .settingsHandOver s = .next (s.withCtl (put { r with service := .inService }))) ∧
     (c.store.settings.links.service[n] = .unused →
       (r.link = .down → exec .settingsHandOver s = .next (s.withCtl
         (put { r with service := .unused, inbound := [], outbound := [], orderHold := [] }))) ∧
       (r.link = .up → x.state = .idle → exec .settingsHandOver s = .next (s.withCtl
         (put { r.fallen with service := .unused }))) ∧
       (r.link = .up → x.state = .connected ∨ x.state = .complete → exec .settingsHandOver s = .next (s.withCtl
         { (put { r.fallen with service := .unused }) with
           contexts := c.contexts.set n { x with state := .idle, connected := false, auth := none } }))))

/-- R22, R23: LOCK_GROUP and UNLOCK_GROUP write one group lock, SET_METROLOGY_LOCK sets the metrology lock, each is
answered OK whatever the lock held, and the settings CRC covers the new locks; a name outside the seven is refused
ARGUMENT. -/
def Obligations.locks_are_written : Prop :=
  ∀ (s : State) (tag code : Octet) (rest : List Telegram), s.ctl.atRest →
    let c := s.ctl
    let stored := fun (k : Locks) (m : Bool) (kind : Octet) =>
      (.next (s.withCtl ({ c with store := { c.store with
        locks := k, metrologyLock := m, settingsCrc := some ⟨c.store.settings, k, m⟩ } }.answered plantPort rest
          ⟨kind, tag, [0x00]⟩)) : Host.Outcome State Fault Refusal)
    let refused := fun kind : Octet =>
      (.next (s.withCtl (c.answered plantPort rest ⟨kind, tag, [0x04]⟩)) : Host.Outcome State Fault Refusal)
    (s.ctl.asked plantPort ⟨0x15, tag, [code]⟩ rest → exec (.lockGroup plantPort tag code) s =
      match groupOf code with
      | some g => stored (c.store.locks.put g true) c.store.metrologyLock 0x95
      | none => refused 0x95) ∧
    (s.ctl.asked plantPort ⟨0x16, tag, [code]⟩ rest → exec (.unlockGroup plantPort tag code) s =
      match groupOf code with
      | some g => stored (c.store.locks.put g false) c.store.metrologyLock 0x96
      | none => refused 0x96) ∧
    (s.ctl.asked plantPort ⟨0x17, tag, []⟩ rest → exec (.setMetrologyLock plantPort tag) s =
      stored c.store.locks true 0x97)

/-- R25, R144: SET_CLOCK sets the clock and the clock-set flag and is answered OK with the value; a PENDING tariff
whose effective time the value reaches becomes ACTIVE. The settings CRC and the records are as they were. R24, R144:
the clock advances by one at each second, 0 after 4,294,967,295, with the core supply or the retained-domain supply
present, and in reset too, and a PENDING tariff whose effective time it reaches becomes ACTIVE. The clock-set flag is
unchanged. -/
def Obligations.clock_is_set_and_advances : Prop :=
  (∀ (s : State) (tag : Octet) (v : BitVec 32) (rest : List Telegram), s.ctl.atRest →
     s.ctl.asked plantPort ⟨0x18, tag, octets 4 v.toNat⟩ rest →
     let c := s.ctl
     exec (.setClock plantPort tag v) s = .next (s.withCtl
       ({ c with
           store := { c.store with clock := v, clockSet := true }
           active := match c.pendingTariff with
             | some w => if w.effective.toNat ≤ v.toNat then w.prices else c.active
             | none => c.active
           pendingTariff := match c.pendingTariff with
             | some w => if w.effective.toNat ≤ v.toNat then none else some w
             | none => none }.answered plantPort rest ⟨0x98, tag, 0x00 :: octets 4 v.toNat⟩))) ∧
  (∀ (s : State),
     let c := s.ctl
     let now := BitVec.ofNat 32 ((c.store.clock.toNat + 1) % 4294967296)
     let due := match c.pendingTariff with
       | some w => decide (w.effective.toNat ≤ now.toNat)
       | none => false
     exec .clockSecond s =
       if c.corePowered ∨ c.retainedPowered then .next (s.withCtl { c with
         store := { c.store with clock := now }
         active := match c.pendingTariff with | some w => if due then w.prices else c.active | none => c.active
         pendingTariff := if due then none else c.pendingTariff })
       else .next s)

/-- R27, R28: RESTART is answered OK and a warm restart becomes pending; COLD_START is answered LOCKED while the
metrology lock is set, then STATE while a record is OPEN, and otherwise OK, a cold start becoming pending. R27: a
pending start is taken at the end of the transmission of its answer on P0, or at the expiry of P0's link timer; the
end of another transmission on P0 only frees the line. That the start is taken at the expiry itself, before the loss
of the port is handed on, is the model's choice (log entry 14). R29, R30: the start taken: a warm restart leaves what
`Controller.restarted` says block by block, the totalisers counting in 48 bits; a cold start the values of the state
after reset, the supplies as they were, whole in one step by the model's choice (log entry 36). Neither leaves a start
pending. -/
def Obligations.starts_are_pending_and_taken : Prop :=
  (∀ (s : State) (tag : Octet) (rest : List Telegram), s.ctl.atRest →
     let c := s.ctl
     (c.asked plantPort ⟨0x19, tag, []⟩ rest → exec (.restart plantPort tag) s =
       .next (s.withCtl ({ c with pendingStart := some .warm }.answered plantPort rest ⟨0x99, tag, [0x00]⟩))) ∧
     (c.asked plantPort ⟨0x1A, tag, []⟩ rest → exec (.coldStart plantPort tag) s =
       if c.store.metrologyLock then .next (s.withCtl (c.answered plantPort rest ⟨0x9A, tag, [0x05]⟩))
       else if ∃ r ∈ c.ring.records, r.closed = false then
         .next (s.withCtl (c.answered plantPort rest ⟨0x9A, tag, [0x03]⟩))
       else .next (s.withCtl ({ c with pendingStart := some .cold }.answered plantPort rest ⟨0x9A, tag, [0x00]⟩)))) ∧
  (∀ (s : State) (k : StartKind), s.ctl.atRest → s.ctl.pendingStart = some k → (k = .warm → s.ctl.totalsFit) →
     let begun := match k with | .warm => s.ctl.restarted | .cold => s.ctl.coldStarted
     begun.pendingStart = none ∧
     (∀ t, (s.ctl.port plantPort).line = some t → exec (.transmissionEnd plantPort) s =
       if (t.kind = 0x99 ∨ t.kind = 0x9A) ∧ t.body = [0x00] then .next (s.withCtl begun)
       else .next (s.withCtl (s.ctl.setPort plantPort (s.ctl.port plantPort).lineFreed))) ∧
     ((s.ctl.port plantPort).linkTimer.isSome = true →
       exec (.linkTimeout plantPort) s = .next (s.withCtl begun)))

/-- R29, R1, R31, R47, R65, R80, R93, R132, R146, R147, R153: the release of the reset input with the core supply
present takes a warm restart: what every block holds after it (`Controller.restarted`, block by block). Each OPEN record
is closed with reason RESTART from its running fields, and the totalisers rise by its metered mass. -/
def Obligations.warm_restart : Prop :=
  ∀ (s : State), s.ctl.resetAsserted = true → s.ctl.corePowered = true → s.ctl.totalsFit →
    exec .resetRelease s = .next (s.withCtl { s.ctl.restarted with resetAsserted := false })

/-- R26: a power-up takes a warm restart where the validity marker is valid and the settings CRC matches, else a cold
start; a rise of a supply that is present changes nothing. That the retained-domain supply is present at a power-up is
the model's choice (log entry 15), and so are a CRC known by the contents it covers, which different contents never
match (log entry 9), and a start carried out whole in one step (log entry 36). R20, R26, R27, R29: the reset input,
asserted, drops a pending start, frees the lines and stops every timer; the core supply's failure drops a pending start,
keeps retained memory but for a settings CRC that a cut write disturbs, and loses the validity marker where the
retained-domain supply is gone too; that supply's failure loses the marker where the core supply is absent. What the
reset input does to lines, timers and a pending start at its assertion is deduced (log entry 35). -/
def Obligations.supplies_rise_and_fall : Prop :=
  (∀ (s : State), s.ctl.totalsFit →
     let c := s.ctl
     let risen := { c with corePowered := true, retainedPowered := true }
     exec .powerUp s =
       if c.corePowered then .next s
       else if c.store.marker = true ∧ c.store.settingsCrc = some ⟨c.store.settings, c.store.locks,
           c.store.metrologyLock⟩
         then .next (s.withCtl risen.restarted)
       else .next (s.withCtl risen.coldStarted)) ∧
  (∀ (s : State) (disturbed : Bool),
     let c := s.ctl
     (c.resetAsserted = false → ∃ t, exec .resetAssert s = .next t ∧ t.ctl.resetAsserted = true ∧
       t.ctl.pendingStart = none ∧ t.ctl.haltTimers = t.ctl ∧ t.ctl.store = c.store ∧
       t.ctl.ring.records = c.ring.records ∧ t.ctl.ring.nextSeq = c.ring.nextSeq ∧ t.ctl.nozzleTotals = c.nozzleTotals ∧
       t.ctl.active = c.active ∧ t.ctl.pendingTariff = c.pendingTariff ∧
       (∀ p, (t.ctl.port p).line = none ∧ (t.ctl.port p).inbound = (c.port p).inbound) ∧
       (∀ b, (t.ctl.bank b).generation = (c.bank b).generation ∧ (t.ctl.bank b).state = (c.bank b).state) ∧
       (∀ n, (t.ctl.ctx n).state = (c.ctx n).state ∧ (t.ctl.ctx n).auth = (c.ctx n).auth)) ∧
     (c.corePowered = true → exec (.coreSupplyLoss disturbed) s = .next (s.withCtl { c with
       corePowered := false, pendingStart := none
       store := { c.store with
         settingsCrc := if disturbed then none else c.store.settingsCrc
         marker := c.store.marker && c.retainedPowered } })) ∧
     exec .retainedDomainSupplyLoss s = .next (s.withCtl { c with
       retainedPowered := false, store := { c.store with marker := c.store.marker && c.corePowered } }))

/-! ## Storage banks -/

/-- R44, R67: an ISOLATE_BANK whose number names no configured bank is refused ARGUMENT; that of an ISOLATED bank
changes nothing; that of an IDLE bank which the Scheduler neither queues, claims nor holds makes it ISOLATED, its
generation kept. Each of the last two is answered OK. R44, R35, R58: an ISOLATE_BANK of a configured bank that is not
ISOLATED, in every other state, leaves it ISOLATED with no holder, order, release or next holder; its generation rises
by one where it had a holder. R43: the expiry of a CLOSE order's confirmation timer isolates the bank: holder, order
and next holder removed, the generation one higher where it had a holder. R127, R125: the isolation of a fill's
current bank, with nobody else waiting: a fill in RAMPING or HOLD holds BANK_SWITCH and no bank, its segment closed,
and goes on at step 2 of R125: SEGMENT_LIMIT at 8 segments, STORAGE_LOW where no bank could serve, else a bank request
(R54, R36, R57). R109, R110: a fill in LEAK_CHECK ends LEAK_CHECK_INTERRUPTED; that the entry to ENDING clears its
leak-check fields is deduced (log entry 26). -/
def Obligations.bank_is_isolated : Prop :=
  (∀ (s : State) (tag bank : Octet) (b : BankId) (rest : List Telegram), s.ctl.atRest →
     s.ctl.asked plantPort ⟨0x10, tag, [bank]⟩ rest →
     let c := s.ctl
     let answered := fun (d : Controller) (code : Octet) =>
       (.next (s.withCtl (d.answered plantPort rest ⟨0x90, tag, [code]⟩)) : Host.Outcome State Fault Refusal)
     (bank.toNat = 0 ∨ c.alloc.bankCount < bank.toNat ∨ 12 < bank.toNat →
       exec (.isolateBank plantPort tag bank) s = answered c 0x04) ∧
     (bank.toNat = b.val + 1 → b.val < c.alloc.bankCount →
       ((c.bank b).state = .isolated → exec (.isolateBank plantPort tag bank) s = answered c 0x00) ∧
       ((c.bank b).state = .idle → (c.bank b).holder = none → (c.bank b).order = none →
         (c.bank b).releasePending = false → (c.bank b).nextHolder = none → b ∉ c.sched.queue →
         c.sched.claimPending ≠ some b → c.sched.heldBank.map HeldBank.bank ≠ some b →
         exec (.isolateBank plantPort tag bank) s = answered (c.setBank b { c.bank b with state := .isolated }) 0x00))) ∧
  (∀ (s : State) (tag bank : Octet) (b : BankId) (rest : List Telegram), s.ctl.atRest →
     s.ctl.asked plantPort ⟨0x10, tag, [bank]⟩ rest → bank.toNat = b.val + 1 → b.val < s.ctl.alloc.bankCount →
     (s.ctl.bank b).state ≠ .isolated →
     ∃ t, exec (.isolateBank plantPort tag bank) s = .next t ∧ t.ctl.bank b = { s.ctl.bank b with
       state := .isolated, holder := none, order := none, releasePending := false, nextHolder := none
       generation := if (s.ctl.bank b).holder = none then (s.ctl.bank b).generation else (s.ctl.bank b).generation + 1 }) ∧
  (∀ (s : State) (b : BankId) (o : ValveOrder), s.ctl.atRest → (s.ctl.bank b).order = some o → o.action = .closed →
     o.timer.isSome = true →
     ∃ t, exec (.valveCloseTimeout b) s = .next t ∧ t.ctl.bank b = { s.ctl.bank b with
       state := .isolated, holder := none, order := none, releasePending := false, nextHolder := none
       generation := if (s.ctl.bank b).holder = none then (s.ctl.bank b).generation else (s.ctl.bank b).generation + 1 }) ∧
  (∀ (s : State) (tag bank : Octet) (b : BankId) (n : Nozzle) (ref : BankRef) (a : Authorisation) (r : Record)
     (f : FillLimits) (rest : List Telegram), s.ctl.calm → s.ctl.asked plantPort ⟨0x10, tag, [bank]⟩ rest →
     s.ctl.roomFor plantPort 3 → s.ctl.room (portOfNozzle n) →
     let c := s.ctl
     let x := c.ctx n
     bank.toNat = b.val + 1 → b.val < c.alloc.bankCount → (c.bank b).state ≠ .isolated → (c.bank b).nextHolder = none →
     (c.bank b).holder = some (.nozzle n) → x.currentBank = some ref → ref.bank = b → c.hasFill n a r f →
     b ∉ c.sched.queue → c.sched.claimPending ≠ some b → c.sched.heldBank.map HeldBank.bank ≠ some b →
     let lost := { ((if x.state = .ramping then c.shutsFlow n else c).setBank b { c.bank b with
         state := .isolated, holder := none, order := none, releasePending := false
         generation := (c.bank b).generation + 1 }) with
       contexts := c.contexts.set n { x.withCause .bankSwitch (c.port (portOfNozzle n)).tagCounter c.orderTime with
         currentBank := none, lastBank := some ref }
       ring := { c.ring with records := changed a.seq (Record.closing (c.bank b).pressure) c.ring.records } }
     let ended := lost.answered plantPort rest ⟨0x90, tag, [0x00]⟩
     let claim : BankClaim :=
       ⟨n, a.priority, x.join.getD 0, x.vclass, ref.tier, x.measured + c.store.settings.banks.differential⟩
     ((x.state = .ramping ∨ x.state = .hold) → r.segments.length < 8 → lost.wantsBank n → ¬ lost.storageIsLow claim →
       lost.refillsWhat claim → ∃ t, exec (.isolateBank plantPort tag bank) s = .next t ∧
         t = s.withCtl { lost.asks claim with ports := t.ctl.ports } ∧
         t.ctl.port plantPort = ((lost.asks claim).answered plantPort rest ⟨0x90, tag, [0x00]⟩).port plantPort) ∧
     ((x.state = .ramping ∨ x.state = .hold) →
       (8 ≤ r.segments.length → ∃ t, exec (.isolateBank plantPort tag bank) s = .next t ∧
         ended.endsFill t.ctl n .segmentLimit) ∧
       (r.segments.length < 8 → lost.wantsBank n → lost.storageIsLow claim →
         ∃ t, exec (.isolateBank plantPort tag bank) s = .next t ∧ ended.endsFill t.ctl n .storageLow)) ∧
     (x.state = .leakCheck → ∃ t, exec (.isolateBank plantPort tag bank) s = .next t ∧
       ended.endsFill t.ctl n .leakCheckInterrupted))

/-- R45: a RESTORE_BANK whose number names no configured bank is refused ARGUMENT, one of a bank not ISOLATED STATE; an
ISOLATED bank becomes IDLE, its other fields kept, and is answered OK. R45, R56, R36, R103, R126: with no other
configured bank IDLE, its grant scan passes over the entries the bank does not qualify for, and grants it to the first
it does: a fill that waits for resources begins its leak check, and one in a switch of banks holds it. -/
def Obligations.restore_bank : Prop :=
  (∀ (s : State) (tag bank : Octet) (b : BankId) (rest : List Telegram), s.ctl.atRest →
     s.ctl.asked plantPort ⟨0x11, tag, [bank]⟩ rest →
     let c := s.ctl
     let answered := fun (d : Controller) (code : Octet) =>
       (.next (s.withCtl (d.answered plantPort rest ⟨0x91, tag, [code]⟩)) : Host.Outcome State Fault Refusal)
     (bank.toNat = 0 ∨ c.alloc.bankCount < bank.toNat ∨ 12 < bank.toNat →
       exec (.restoreBank plantPort tag bank) s = answered c 0x04) ∧
     (bank.toNat = b.val + 1 → b.val < c.alloc.bankCount →
       ((c.bank b).state ≠ .isolated → exec (.restoreBank plantPort tag bank) s = answered c 0x03) ∧
       ((c.bank b).state = .isolated → c.alloc.bankList = [] → exec (.restoreBank plantPort tag bank) s =
         answered (c.setBank b { c.bank b with state := .idle }) 0x00))) ∧
  (∀ (s : State) (tag bank : Octet) (b : BankId) (l m : List BankClaim) (k : BankClaim) (rest : List Telegram),
      s.ctl.atRest →
     s.ctl.asked plantPort ⟨0x11, tag, [bank]⟩ rest → s.ctl.roomFor plantPort 2 →
     let c := s.ctl
     bank.toNat = b.val + 1 → b.val < c.alloc.bankCount → (c.bank b).state = .isolated →
     (∀ d : BankId, d.val < c.alloc.bankCount → d ≠ b → (c.bank d).state ≠ .idle) → c.alloc.bankList = l ++ m →
     (∀ u ∈ l, qualifies (c.bank b) u = false) →
     let restored := c.setBank b { c.bank b with state := .idle }
     (m = [] → exec (.restoreBank plantPort tag bank) s =
       .next (s.withCtl (restored.answered plantPort rest ⟨0x91, tag, [0x00]⟩))) ∧
     (m.head? = some k → qualifies (c.bank b) k = true → (c.ctx k.nozzle).currentBank = none →
       ((c.ctx k.nozzle).state = .waitResources ∨
         (c.ctx k.nozzle).state = .hold ∧ (c.ctx k.nozzle).causes.bankSwitch = true) →
       exec (.restoreBank plantPort tag bank) s =
         .next (s.withCtl ((restored.grants b k.nozzle).answered plantPort rest ⟨0x91, tag, [0x00]⟩))))

/-- R33, R66: a BANK_SAMPLE of one configured bank, with nobody waiting for a bank: the pressure is stored, at most
120,000, and the temperature, clamped. With the compressor in BACKOFF, STARVED or FAULTED, the bank leaves the refill
queue at or above its stop threshold, joins at the tail of its tier's part below its start threshold unless queued or
ISOLATED, and is otherwise left as it was. R68, R69, R53: a bank that joins, or an IDLE one that stands in the queue, is
followed by a start attempt of a STOPPED compressor: STARVED at a low inlet, the first IDLE bank claimed and granted, or
the claim waiting. R73: the bank being refilled at or above its stop threshold ends the refill FULL: the stall count is
0, a STOP goes out, its release is asked for and the reservation is given back. An entry that names no configured bank
is ignored. R33: a BANK_SAMPLE of any entries takes them in list order, each as one sample of its bank with what it
causes before the next: where the compressor is not STOPPED and no entry ends its refill, and where it may claim and no
entry takes an IDLE bank or the refill bank from the queue. Octets beyond the last whole entry have no effect (log entry
8). -/
def Obligations.bank_sample : Prop :=
  (∀ (s : State) (tag : Octet) (e : SampleEntry) (b : BankId) (rest : List Telegram), s.ctl.atRest →
     s.ctl.told plantPort ⟨0x30, tag, SampleEntry.field e⟩ rest →
     let c := s.ctl
     (e.bank.toNat = 0 ∨ c.alloc.bankCount < e.bank.toNat ∨ 12 < e.bank.toNat →
       exec (.bankSample plantPort tag [e] []) s = .next (s.withCtl (c.taken plantPort rest))) ∧
     (e.bank.toNat = b.val + 1 → b.val < c.alloc.bankCount → c.alloc.bankList = [] → c.sched.claimPending = none →
       (c.sched.state = .backoff ∨ c.sched.state = .starved ∨ c.sched.state = .faulted) →
       let pressure := min e.pressure.toNat 120000
       let rank := fun u => (c.bank u).tier.rank
       let stored := c.setBank b { c.bank b with
         pressure := some pressure, temperature := some (max (-600) (min 1500 e.temperature.toInt)) }
       let queue : List BankId :=
         if c.store.settings.banks.stopThreshold.of (c.bank b).tier ≤ pressure then c.sched.queue.filter fun u => u != b
         else if pressure < c.store.settings.banks.startThreshold.of (c.bank b).tier ∧ b ∉ c.sched.queue ∧
             (c.bank b).state ≠ .isolated then
           c.sched.queue.takeWhile (fun u => rank b ≤ rank u) ++ b :: c.sched.queue.dropWhile fun u => rank b ≤ rank u
         else c.sched.queue
       exec (.bankSample plantPort tag [e] []) s =
         .next (s.withCtl ({ stored with sched := { c.sched with queue := queue } }.taken plantPort rest)))) ∧
  (∀ (s : State) (tag : Octet) (e : SampleEntry) (b : BankId) (rest : List Telegram), s.ctl.atRest →
     s.ctl.told plantPort ⟨0x30, tag, SampleEntry.field e⟩ rest → s.ctl.roomFor plantPort 2 →
     let c := s.ctl
     e.bank.toNat = b.val + 1 → b.val < c.alloc.bankCount → c.alloc.bankList = [] →
     let pressure := min e.pressure.toNat 120000
     let rank := fun u => (c.bank u).tier.rank
     let stored := (c.setBank b { c.bank b with
       pressure := some pressure,
           temperature := some (max (-600) (min 1500 e.temperature.toInt)) }).taken plantPort rest
     let full := c.store.settings.banks.stopThreshold.of (c.bank b).tier ≤ pressure
     let low := pressure < c.store.settings.banks.startThreshold.of (c.bank b).tier
     (¬ full → c.mayAttempt → low → b ∉ c.sched.queue → (c.bank b).state ≠ .isolated →
       exec (.bankSample plantPort tag [e] []) s = .next (s.withCtl ({ stored with sched := { c.sched with
         queue := c.sched.queue.takeWhile (fun u => rank b ≤ rank u) ++ b ::
           c.sched.queue.dropWhile fun u => rank b ≤ rank u } }.attempts))) ∧
     (¬ full → c.mayAttempt → b ∈ c.sched.queue → (c.bank b).state = .idle →
       exec (.bankSample plantPort tag [e] []) s = .next (s.withCtl stored.attempts)) ∧
     (full → c.alloc.precoolList = [] → c.alloc.compressorClaim = none → c.sched.refillBank = some b →
         c.sched.refilling = true →
       c.sched.claimPending = none →
       exec (.bankSample plantPort tag [e] []) s = .next (s.withCtl
         ({ stored with sched := { c.sched with
           queue := c.sched.queue.filter (fun u => u != b), stallCount := 0 } }.refillEnds .stopped)))) ∧
  (∀ (s : State) (tag : Octet) (l : List SampleEntry) (x : List Octet) (rest : List Telegram), s.ctl.atRest →
     Instr.wellFormed (.bankSample plantPort tag l x) = true →
     s.ctl.told plantPort ⟨0x30, tag, l.flatMap SampleEntry.field ++ x⟩ rest →
     let c := s.ctl
     let full := fun (e : SampleEntry) (b : BankId) => e.bank.toNat = b.val + 1 ∧ b.val < c.alloc.bankCount ∧
       c.store.settings.banks.stopThreshold.of (c.bank b).tier ≤ min e.pressure.toNat 120000
     let resting := c.sched.state ≠ .stopped ∧ c.sched.claimPending = none ∧
       (c.sched.refilling = true → ∀ e ∈ l, ∀ b, full e b → c.sched.refillBank ≠ some b)
     let claiming := c.mayAttempt ∧ c.roomFor plantPort 2 ∧
       ∀ e ∈ l, ∀ b, full e b → (c.bank b).state ≠ .idle ∧ c.sched.refillBank ≠ some b
     c.alloc.bankList = [] → (resting ∨ claiming) →
     exec (.bankSample plantPort tag l x) s =
       .next (s.withCtl (l.foldl Controller.sampledBank (c.taken plantPort rest))))

/-- R38: a VALVE_CONFIRM that fails one of the five tests changes no state; it is only taken from its queue. R39, R40:
with the release pending, an OPEN order's matching confirmation and the expiry of its timer act alike: the mark is
cleared, the holder is not told, and a BANK_VALVE CLOSE goes out, a new order in flight. R42, R35, R73: the matching
CLOSE confirmation of the bank the compressor holds, with no next holder and nobody waiting for a bank: the bank is
IDLE without a holder, its generation one higher, the Scheduler holds no bank, and a STOPPED one runs a start attempt
(R68). R72, R78: its OPEN confirmation in STARTING, and the expiry of the OPEN's timer, which ends the refill FAULTED
with VALVE_UNCONFIRMED. R42, R58: the matching CLOSE confirmation of a preempted bank passes it to its next holder in
the same event, its generation two higher. The order in which the holder is told and the scan runs is deduced (log
entry 11). R42, R125: that of the bank a fill releases in a switch: the segment closed, the bank IDLE and the last
bank of the fill; then SEGMENT_LIMIT at 8 segments, STORAGE_LOW where no bank could serve, and else a request that is
parked without a reservation, granted, preempts the bank being refilled, or waits. -/
def Obligations.valves_are_confirmed : Prop :=
  (∀ (s : State) (tag bank generation state : Octet) (rest : List Telegram), s.ctl.atRest →
     s.ctl.told plantPort ⟨0x40, tag, [bank, generation, state]⟩ rest →
     (∀ b : BankId, bank.toNat = b.val + 1 → b.val < s.ctl.alloc.bankCount →
       (s.ctl.bank b).order.map (fun o => (o.tag, (s.ctl.bank b).generation, o.action.code)) ≠
         some (tag, generation, state)) →
     exec (.valveConfirm plantPort tag bank generation state) s = .next (s.withCtl (s.ctl.taken plantPort rest))) ∧
  (∀ (s : State) (b : BankId) (o : ValveOrder) (rest : List Telegram), s.ctl.atRest → s.ctl.room plantPort →
     b.val < s.ctl.alloc.bankCount → (s.ctl.bank b).order = some o → o.action = .opened →
     (s.ctl.bank b).releasePending = true →
     let c := s.ctl
     let r := c.bank b
     let closing := fun d : Controller =>
       (d.orders plantPort 0x50 [BitVec.ofNat 8 (b.val + 1), o.route.code, 0x02, r.generation, 0, 0, 0]).setBank b
         { r with
           releasePending := false
           order := some ⟨.closed, (c.port plantPort).tagCounter, o.route, r.generation, some c.orderTime⟩ }
     (c.told plantPort ⟨0x40, o.tag, [BitVec.ofNat 8 (b.val + 1), r.generation, 0x01]⟩ rest →
       exec (.valveConfirm plantPort o.tag (BitVec.ofNat 8 (b.val + 1)) r.generation 0x01) s =
         .next (s.withCtl (closing (c.taken plantPort rest)))) ∧
     (o.timer.isSome = true → exec (.valveOpenTimeout b) s = .next (s.withCtl (closing c)))) ∧
  (∀ (s : State) (b : BankId) (o : ValveOrder) (h : HeldBank) (rest : List Telegram), s.ctl.atRest →
     b.val < s.ctl.alloc.bankCount → (s.ctl.bank b).order = some o → o.action = .closed →
     (s.ctl.bank b).holder = some .compressor → (s.ctl.bank b).nextHolder = none → s.ctl.alloc.bankList = [] →
     s.ctl.sched.heldBank = some h → h.bank = b → s.ctl.sched.state ≠ .stopped →
     let c := s.ctl
     c.told plantPort ⟨0x40, o.tag, [BitVec.ofNat 8 (b.val + 1), (c.bank b).generation, 0x02]⟩ rest →
     exec (.valveConfirm plantPort o.tag (BitVec.ofNat 8 (b.val + 1)) (c.bank b).generation 0x02) s =
       .next (s.withCtl (({ (c.setBank b { c.bank b with
           state := .idle, holder := none, order := none, generation := (c.bank b).generation + 1 }) with
         sched := { c.sched with heldBank := none } }).taken plantPort rest))) ∧
  (∀ (s : State) (b : BankId) (o : ValveOrder) (k : BankClaim) (rest : List Telegram), s.ctl.atRest →
     b.val < s.ctl.alloc.bankCount → (s.ctl.bank b).order = some o → o.action = .closed →
     (s.ctl.bank b).nextHolder = some k →
     s.ctl.told plantPort ⟨0x40, o.tag, [BitVec.ofNat 8 (b.val + 1), (s.ctl.bank b).generation, 0x02]⟩ rest →
     ∃ t, exec (.valveConfirm plantPort o.tag (BitVec.ofNat 8 (b.val + 1)) (s.ctl.bank b).generation 0x02) s = .next t ∧
       (t.ctl.bank b).state = .drawing ∧ (t.ctl.bank b).holder = some (.nozzle k.nozzle) ∧
       (t.ctl.bank b).nextHolder = none ∧ (t.ctl.bank b).generation = (s.ctl.bank b).generation + 2) ∧
  (∀ (s : State) (b : BankId) (o : ValveOrder) (rest : List Telegram), s.ctl.atRest → s.ctl.roomFor plantPort 2 →
     b.val < s.ctl.alloc.bankCount → (s.ctl.bank b).order = some o →
     (s.ctl.bank b).holder = some .compressor → (s.ctl.bank b).nextHolder = none →
     let c := s.ctl
     let r := c.bank b
     let k := c.sched
     (o.action = .closed → c.alloc.bankList = [] → c.mayAttempt → k.heldBank.map HeldBank.bank = some b →
       c.told plantPort ⟨0x40, o.tag, [BitVec.ofNat 8 (b.val + 1), r.generation, 0x02]⟩ rest →
       exec (.valveConfirm plantPort o.tag (BitVec.ofNat 8 (b.val + 1)) r.generation 0x02) s =
         .next (s.withCtl ({ ((c.setBank b { r with
             state := .idle, holder := none, order := none, generation := r.generation + 1 }).taken plantPort rest) with
           sched := { k with heldBank := none } }.attempts))) ∧
     (o.action = .opened → r.releasePending = false → k.state = .starting →
       c.told plantPort ⟨0x40, o.tag, [BitVec.ofNat 8 (b.val + 1), r.generation, 0x01]⟩ rest →
       exec (.valveConfirm plantPort o.tag (BitVec.ofNat 8 (b.val + 1)) r.generation 0x01) s =
         .next (s.withCtl { ((c.setBank b { r with order := none }).taken plantPort rest) with
           sched := if k.runConfirmed then { k with
               valveOpen := true, state := .running, stallWindow := some ⟨30000, k.discharge⟩ }
             else { k with valveOpen := true } })) ∧
     (o.action = .opened → r.releasePending = false → o.timer.isSome = true → k.refilling = true →
       c.alloc.precoolList = [] → c.alloc.compressorClaim = none → k.claimPending = none →
       c.roomFor plantPort 3 →
       let ended := ((c.orders plantPort 0x50
         [BitVec.ofNat 8 (b.val + 1), o.route.code, 0x02, r.generation, 0, 0, 0]).setBank b { r with
           order := some ⟨.closed, (c.port plantPort).tagCounter, o.route, r.generation, some c.orderTime⟩ }).refillEnds
             .faulted
       exec (.valveOpenTimeout b) s = .next (s.withCtl
         { (ended.notices plantPort 0x60 [0x02, 0x03, BitVec.ofNat 8 (b.val + 1), BitVec.ofNat 8 k.stallCount]) with
           sched := { ended.sched with backoff := none } }))) ∧
  (∀ (s : State) (b : BankId) (n : Nozzle) (o : ValveOrder) (ref : BankRef) (a : Authorisation) (r : Record)
     (f : FillLimits) (rest : List Telegram), s.ctl.calm → s.ctl.roomFor plantPort 2 →
     let c := s.ctl
     let x := c.ctx n
     b.val < c.alloc.bankCount → (c.bank b).order = some o → o.action = .closed → (c.bank b).nextHolder = none →
     (c.bank b).holder = some (.nozzle n) → x.currentBank = some ref → ref.bank = b → x.state = .hold →
     x.causes.bankSwitch = true → c.hasFill n a r f →
     c.told plantPort ⟨0x40, o.tag, [BitVec.ofNat 8 (b.val + 1), (c.bank b).generation, 0x02]⟩ rest →
     let freed := { (c.setBank b { c.bank b with
         state := .idle, holder := none, order := none, generation := (c.bank b).generation + 1 }) with
       contexts := c.contexts.set n { x with currentBank := none, lastBank := some ref }
       ring := { c.ring with records := changed a.seq (Record.closing (c.bank b).pressure) c.ring.records } }.taken plantPort rest
     let claim : BankClaim :=
       ⟨n, a.priority, x.join.getD 0, x.vclass, ref.tier, x.measured + c.store.settings.banks.differential⟩
     let ends := fun why : EndReason =>
       ∃ t, exec (.valveConfirm plantPort o.tag (BitVec.ofNat 8 (b.val + 1)) (c.bank b).generation 0x02) s = .next t ∧
         freed.endsFill t.ctl n why
     (8 ≤ r.segments.length → ends .segmentLimit) ∧
     (r.segments.length < 8 → freed.wantsBank n →
       (c.storageIsLow claim → ends .storageLow) ∧
       (¬ c.storageIsLow claim → freed.refillsWhat claim →
         exec (.valveConfirm plantPort o.tag (BitVec.ofNat 8 (b.val + 1)) (c.bank b).generation 0x02) s =
           .next (s.withCtl (freed.asks claim)))))

/-- R39, R106: the matching OPEN confirmation of the bank of a fill in LEAK_CHECK, phase OPENING, with a pulse delay:
the order is settled, the clock is the record's flow start time, the current ambient band is snapshot in the context
and the record, and the phase is DELAY with the leak-check timer at the pulse delay; with a delay of 0 the phase is
PULSE at once and the FLOW OPEN goes out. R126, R128: that of the bank of a fill in a switch removes BANK_SWITCH, the
lag count 0, and a fill left without a cause ramps again. R40, R110: the expiry of the OPEN order's timer hands the
CLOSE, and either fill enters ENDING with VALVE_TIMEOUT; that the entry clears the leak-check fields is deduced (log
entry 26). -/
def Obligations.bank_opens_for_a_fill : Prop :=
  (∀ (s : State) (b : BankId) (n : Nozzle) (o : ValveOrder) (ref : BankRef) (a : Authorisation) (rest : List Telegram),
     s.ctl.atRest → b.val < s.ctl.alloc.bankCount → (s.ctl.bank b).order = some o → o.action = .opened →
     (s.ctl.bank b).releasePending = false → (s.ctl.bank b).holder = some (.nozzle n) →
     (s.ctl.ctx n).state = .leakCheck → (s.ctl.ctx n).phase = some .opening → (s.ctl.ctx n).currentBank = some ref →
     ref.bank = b → (s.ctl.ctx n).auth = some a → 1 ≤ s.ctl.store.settings.ramp.pulseDelay →
     let c := s.ctl
     c.told plantPort ⟨0x40, o.tag, [BitVec.ofNat 8 (b.val + 1), (c.bank b).generation, 0x01]⟩ rest →
     exec (.valveConfirm plantPort o.tag (BitVec.ofNat 8 (b.val + 1)) (c.bank b).generation 0x01) s =
       .next (s.withCtl (({ (c.setBank b { c.bank b with order := none }) with
         ring := { c.ring with records := changed a.seq (fun r =>
           { r with flowStart := some c.store.clock, band := some c.thermal.band }) c.ring.records }
         contexts := c.contexts.set n { c.ctx n with
           band := some c.thermal.band, phase := some .delay
           leakTimer := some (c.store.settings.ramp.pulseDelay * 100) } }).taken plantPort rest))) ∧
  (∀ (s : State) (b : BankId) (n : Nozzle) (o : ValveOrder) (ref : BankRef) (rest : List Telegram), s.ctl.atRest →
     let c := s.ctl
     let x := c.ctx n
     b.val < c.alloc.bankCount → (c.bank b).order = some o → o.action = .opened → (c.bank b).releasePending = false →
     (c.bank b).holder = some (.nozzle n) → x.currentBank = some ref → ref.bank = b →
     let opens := Instr.valveConfirm plantPort o.tag (BitVec.ofNat 8 (b.val + 1)) (c.bank b).generation 0x01
     (c.told plantPort ⟨0x40, o.tag, [BitVec.ofNat 8 (b.val + 1), (c.bank b).generation, 0x01]⟩ rest →
       x.state = .hold → x.causes.bankSwitch = true →
       exec opens s = .next (s.withCtl (({ (c.setBank b { c.bank b with order := none }) with
         contexts := c.contexts.set n
           ({ x with lagCount := 0 }.withoutCause .bankSwitch (c.store.settings.ramp.step * 100)) }).taken plantPort
             rest))) ∧
     (c.told plantPort ⟨0x40, o.tag, [BitVec.ofNat 8 (b.val + 1), (c.bank b).generation, 0x01]⟩ rest →
       x.state = .leakCheck → x.phase = some .opening → c.store.settings.ramp.pulseDelay = 0 → x.flow = .closed →
       x.flowOrder = none → c.room (portOfNozzle n) → ∀ a, x.auth = some a →
       exec opens s = .next (s.withCtl ({ ((c.setBank b { c.bank b with order := none }).orders (portOfNozzle n) 0x52
           [0x01, ref.generation]) with
         ring := { c.ring with records := changed a.seq (fun r =>
           { r with flowStart := some c.store.clock, band := some c.thermal.band }) c.ring.records }
         contexts := c.contexts.set n { x with
           band := some c.thermal.band, phase := some .pulse, leakTimer := none, wanted := .opened
           flowOrder := some ⟨.opened, (c.port (portOfNozzle n)).tagCounter, ref.generation, some c.orderTime⟩ } }.taken
             plantPort rest))) ∧
     (o.timer.isSome = true → c.calm → c.room plantPort →
       (x.state = .leakCheck ∧ x.phase = some .opening ∨ x.state = .hold ∧ x.causes.bankSwitch = true) →
       ∃ t, exec (.valveOpenTimeout b) s = .next t ∧
         ((c.orders plantPort 0x50
           [BitVec.ofNat 8 (b.val + 1), o.route.code, 0x02, (c.bank b).generation, 0, 0, 0]).setBank b { c.bank b with
             order := some ⟨.closed, (c.port plantPort).tagCounter, o.route, (c.bank b).generation,
               some c.orderTime⟩ }).endsFill t.ctl n .valveTimeout))

/-! ## Compression -/

/-- R78, R76: a CLEAR_COMPRESSOR_FAULT makes a FAULTED compressor STOPPED with stall count 0 and runs a start attempt,
the answer showing the state they leave; in another state it is refused STATE. The backoff's expiry makes the
compressor STARVED where the latest inlet is below 2,000 kPa, else STOPPED with a start attempt. R68, R69, R53: the
attempt: STARVED at a low inlet, the first IDLE bank of the queue claimed and the refill STARTING, or the claim
waiting. R75, R77: a COMPRESSOR_SAMPLE stores both pressures, at most 120,000; with the inlet below 2,000 kPa a
STOPPED compressor is STARVED, a refill ends STARVED (R73), and a claim in WAIT_COOLING is withdrawn; at a recovered
inlet a STARVED one is STOPPED with a start attempt; in RUNNING, with the inlet not below it, the stall window takes
its base, restarts on a rise of 500 kPa, or runs on. -/
def Obligations.compressor_returns_and_samples : Prop :=
  (∀ (s : State) (tag : Octet) (rest : List Telegram), s.ctl.atRest →
     (s.ctl.sched.queue = [] ∨ s.ctl.mayAttempt ∧ s.ctl.roomFor plantPort 3) →
     let c := s.ctl
     let low := (c.sched.inlet.any fun p => p < 2000) = true
     (c.asked plantPort ⟨0x13, tag, []⟩ rest → exec (.clearCompressorFault plantPort tag) s =
       if c.sched.state = .faulted then
         let d := { c with sched := { c.sched with state := .stopped, stallCount := 0 } }.attempts
         .next (s.withCtl (d.answered plantPort rest ⟨0x93, tag, [0x00, d.sched.state.code, 0x00]⟩))
       else .next (s.withCtl (c.answered plantPort rest
         ⟨0x93, tag, [0x03, c.sched.state.code, BitVec.ofNat 8 c.sched.stallCount]⟩))) ∧
     (c.sched.backoff.isSome = true →
       (low → exec .backoffExpiry s = .next (s.withCtl { c with
         sched := { c.sched with backoff := none, state := .starved } })) ∧
       (¬ low → exec .backoffExpiry s = .next (s.withCtl
         { c with sched := { c.sched with backoff := none, state := .stopped } }.attempts))) ∧
     (c.sched.backoff = none → exec .backoffExpiry s = .next s)) ∧
  (∀ (s : State) (tag : Octet) (inlet discharge : BitVec 24) (rest : List Telegram), s.ctl.atRest →
     s.ctl.told plantPort ⟨0x33, tag, octets 3 inlet.toNat ++ octets 3 discharge.toNat⟩ rest →
     let c := s.ctl
     let x := min inlet.toNat 120000
     let y := min discharge.toNat 120000
     (x < 2000 → c.sched.state ≠ .waitCooling ∧ c.sched.refilling = false) →
     (c.sched.state = .starved → c.sched.queue = []) →
     let after : Scheduler := { c.sched with
       inlet := some x, discharge := some y
       state := if c.sched.state = .stopped ∧ x < 2000 then .starved
         else if c.sched.state = .starved ∧ 2000 ≤ x then .stopped else c.sched.state
       stallWindow := if c.sched.state = .running then c.sched.stallWindow.map fun w =>
           match w.base with
           | none => { w with base := some y }
           | some base => if base + 500 ≤ y then ⟨30000, some y⟩ else w
         else c.sched.stallWindow }
     exec (.compressorSample plantPort tag inlet discharge) s =
       .next (s.withCtl ({ c with sched := after }.taken plantPort rest))) ∧
  (∀ (s : State) (tag : Octet) (inlet discharge : BitVec 24) (rest : List Telegram), s.ctl.atRest →
     s.ctl.roomFor plantPort 2 →
     s.ctl.told plantPort ⟨0x33, tag, octets 3 inlet.toNat ++ octets 3 discharge.toNat⟩ rest →
     let c := s.ctl
     let x := min inlet.toNat 120000
     let y := min discharge.toNat 120000
     let seen := { c with sched := { c.sched with inlet := some x, discharge := some y } }.taken plantPort rest
     let sample := Instr.compressorSample plantPort tag inlet discharge
     (x < 2000 → c.sched.refilling = true → c.alloc.precoolList = [] → c.alloc.compressorClaim = none →
       exec sample s = .next (s.withCtl (seen.refillEnds .starved))) ∧
     (x < 2000 → c.sched.state = .waitCooling → exec sample s = .next (s.withCtl { seen with
       alloc := if c.sched.claimPending = none then c.alloc else { c.alloc with compressorClaim := none }
       sched := { seen.sched with
         state := .starved, claimPending := none
         refillBank := if c.sched.claimPending = none then c.sched.refillBank else none } })) ∧
     (2000 ≤ x → c.sched.state = .starved → c.mayAttempt →
       exec sample s = .next (s.withCtl { seen with sched := { seen.sched with state := .stopped } }.attempts)))

/-- R71, R72, R70: a RUN_CONFIRM that answers the START in flight of a compressor in STARTING: with the bank's valve
open the compressor is RUNNING and its 30 s stall window starts from the latest discharge pressure; else the run is
marked confirmed; with a STOP pending, in whatever state, the STOP goes out. One that answers the STOP in flight settles
it, and a STOPPED compressor runs a start attempt (R68). One that answers no order in flight changes nothing. R71, R78:
the expiry of a STOP order's timer: the order is removed, a pending claim is withdrawn, the compressor is FAULTED, and
the plant has a PLANT_ALERT naming STOP_UNCONFIRMED, the bank and the stall count. The expiry of a START order's timer
ends a refill in STARTING (R73) with START_UNCONFIRMED and its alert; in another state it hands a STOP and goes FAULTED
with START_UNCONFIRMED. The bank that a STOP and its alert name is the model's choice (log entry 22). -/
def Obligations.run_orders_are_answered : Prop :=
  (∀ (s : State) (tag state : Octet) (rest : List Telegram), s.ctl.atRest → s.ctl.room plantPort →
     s.ctl.told plantPort ⟨0x41, tag, [state]⟩ rest →
     let c := s.ctl
     let k := c.sched
     (c.sched.order.map (fun o => (o.tag, o.action.code)) ≠ some (tag, state) →
       exec (.runConfirm plantPort tag state) s = .next (s.withCtl (c.taken plantPort rest))) ∧
     (∀ o, c.sched.order = some o → o.tag = tag → o.action = .start → state = 0x01 →
       (k.state = .starting → k.stopPending = false → exec (.runConfirm plantPort tag state) s = .next (s.withCtl ({ c with sched :=
         if k.valveOpen then { k with
           order := none, runConfirmed := true, state := .running, stallWindow := some ⟨30000, k.discharge⟩ }
         else { k with order := none, runConfirmed := true } }.taken plantPort rest))) ∧
       (k.stopPending = true → exec (.runConfirm plantPort tag state) s = .next (s.withCtl
         { ((c.taken plantPort rest).orders plantPort 0x51 [0x02, bankCode o.bank]) with sched := { k with
           stopPending := false
           order := some ⟨.stop, o.bank, (c.port plantPort).tagCounter, some c.orderTime⟩ } })))) ∧
  (∀ (s : State) (o : RunOrder), s.ctl.atRest → s.ctl.room plantPort → (s.ctl.port plantPort).outbound.length < 11 →
     s.ctl.sched.order = some o → o.timer.isSome = true →
     let c := s.ctl
     let k := c.sched
     let alloc := { c.alloc with compressorClaim := if k.claimPending = none then c.alloc.compressorClaim else none }
     let fallen := { k with
       state := .faulted, backoff := none, stallWindow := none, claimPending := none
       refillBank := if k.claimPending = none then k.refillBank else none }
     let alert := fun why : Octet => [0x02, why, bankCode o.bank, BitVec.ofNat 8 k.stallCount]
     (o.action = .stop → exec .runStopTimeout s = .next (s.withCtl
       { (c.notices plantPort 0x60 (alert 0x02)) with alloc := alloc, sched := { fallen with order := none } })) ∧
     (o.action = .start → k.state ≠ .starting → exec .runStartTimeout s = .next (s.withCtl
       { ((c.orders plantPort 0x51 [0x02, bankCode o.bank]).notices plantPort 0x60 (alert 0x01)) with
         alloc := alloc
         sched := { fallen with
           stopPending := false
           order := some ⟨.stop, o.bank, (c.port plantPort).tagCounter, some c.orderTime⟩ } })) ∧
     (o.action = .start → exec .runStopTimeout s = .next s) ∧ (o.action = .stop → exec .runStartTimeout s = .next s)) ∧
  (∀ (s : State) (o : RunOrder) (rest : List Telegram), s.ctl.atRest → s.ctl.roomFor plantPort 3 →
      s.ctl.sched.order = some o →
     let c := s.ctl
     let k := c.sched
     (o.action = .stop → c.mayAttempt → c.told plantPort ⟨0x41, o.tag, [0x02]⟩ rest →
       exec (.runConfirm plantPort o.tag 0x02) s = .next (s.withCtl
         ({ c with sched := { k with order := none } }.taken plantPort rest).attempts)) ∧
     (o.action = .start → k.state ≠ .starting → k.stopPending = false → c.told plantPort ⟨0x41, o.tag, [0x01]⟩ rest →
       exec (.runConfirm plantPort o.tag 0x01) s = .next (s.withCtl
         ({ c with sched := { k with order := none } }.taken plantPort rest))) ∧
     (o.action = .start → o.timer.isSome = true → k.state = .starting → k.claimPending = none →
       c.alloc.precoolList = [] → c.alloc.compressorClaim = none →
       let ended := { c with sched := { k with order := none, stopPending := false } }.refillEnds .faulted
       exec .runStartTimeout s = .next (s.withCtl
         { (ended.notices plantPort 0x60 [0x02, 0x01, bankCode o.bank, BitVec.ofNat 8 k.stallCount]) with
           sched := { ended.sched with backoff := none } })))

/-- R76, R73, R78: the stall window's expiry in RUNNING: the stall count rises to n, the refill is over, its
reservation given back, its bank still held and marked for release; below 8 the compressor is in BACKOFF for 5 s ×
2^min(n,4), at 8 it is FAULTED. With room at the plant port, the whole next state: a STOP where no run order is in
flight, the CLOSE of the bank held, and at 8 the PLANT_ALERT naming STALL_LIMIT. The bank that the STOP and the alert
name is the model's choice (log entry 22). -/
def Obligations.compressor_stalls : Prop :=
  (∀ (s : State), s.ctl.calm → s.ctl.sched.state = .running → s.ctl.sched.stallWindow.isSome = true →
     let c := s.ctl
     let n := c.sched.stallCount + 1
     ∃ t, exec .stallWindowExpiry s = .next t ∧ t.ctl.sched.stallCount = n ∧
       t.ctl.sched.refillBank = none ∧
       t.ctl.sched.stallWindow = none ∧ t.ctl.sched.queue = c.sched.queue ∧
       t.ctl.sched.heldBank = c.sched.heldBank.map (fun h => ⟨h.bank, true⟩) ∧
       t.ctl.alloc.compressorHeld = false ∧
       (c.alloc.compressorHeld = true → t.ctl.alloc.compressorReservation = 0) ∧
       t.ctl.alloc.reservations = c.alloc.reservations ∧
       (n < 8 → t.ctl.sched.state = .backoff ∧ t.ctl.sched.backoff = some (5000 * 2 ^ min n 4)) ∧
       (8 ≤ n → t.ctl.sched.state = .faulted ∧ t.ctl.sched.backoff = none) ∧
       t.ctl.store = c.store ∧ t.ctl.thermal = c.thermal ∧ t.ctl.contexts = c.contexts ∧ t.ctl.meters = c.meters ∧
       t.ctl.ring = c.ring ∧ c.otherPorts t.ctl plantPort) ∧
  (∀ (s : State), s.ctl.calm → s.ctl.sched.state = .running → s.ctl.sched.stallWindow.isSome = true →
     s.ctl.roomFor plantPort 3 → s.ctl.sched.claimPending = none →
     let c := s.ctl
     let n := c.sched.stallCount + 1
     let ended := { c with sched := { c.sched with stallCount := n } }.refillEnds .faulted
     exec .stallWindowExpiry s = .next (s.withCtl
       (if n < 8 then { ended with sched := { ended.sched with state := .backoff, backoff := some (5000 * 2 ^ min n 4) } }
       else { (ended.notices plantPort 0x60 [0x02, 0x04, bankCode c.sched.refillBank, BitVec.ofNat 8 n]) with
         sched := { ended.sched with backoff := none } })))

/-! ## Thermal monitor and the capacity -/

/-- R81, R48, R82: a CHILLER_SAMPLE stores the supply temperature, clamped, and the precool class it derives; the
derate goes to the Allocator, whose capacity in force becomes the nominal capacity less it. After it, with whatever
shedding, the reservations fit the capacity. R83: with nobody waiting and the reservations within the new capacity,
one that keeps the precool class changes nothing beyond what it stores. R123, R128: one that changes it reaches every
fill in RAMPING or HOLD: a colder class or the same removes PRECOOL_WARM; a warmer one with a permitted entry degrades
the fill, its record marked, its target at most the new end pressure; without one it adds PRECOOL_WARM; a fill without
an entry takes one. R59, R60, R61: shedding takes the compressor first, then the nozzles of rank 2, then those of rank
3, each by highest join number first, and stops as soon as the sum fits; a compressor shed ends its refill
CHILLER_SHED (R73); a nozzle shed joins the precool list with the amount it lost, its bank request parked, a fill in
RAMPING or HOLD holding DERATE_SHED, and one in LEAK_CHECK ending LEAK_CHECK_INTERRUPTED (R109; that the entry to
ENDING clears its leak-check fields is deduced, log entry 26). R105: a fill in RAMPING that takes PRECOOL_WARM or
DERATE_SHED hands its dispenser a FLOW CLOSE, where its flow is OPEN and no flow order is in flight; no other dispenser
is sent a telegram. -/
def Obligations.chiller_sample_keeps_the_account : Prop :=
  (∀ (s : State) (tag : Octet) (supply : BitVec 16) (derate : Octet) (rest : List Telegram), s.ctl.atRest →
     s.ctl.told plantPort ⟨0x31, tag, octets 2 supply.toNat ++ [derate]⟩ rest →
     let v := max (-600) (min 1500 supply.toInt)
     ∃ t, exec (.chillerSample plantPort tag supply derate) s = .next t ∧
       t.ctl.thermal = { s.ctl.thermal with
         supply := some v, derate := derate.toNat
         precoolClass := if v ≤ -330 then .t40 else if v ≤ -260 then .t30 else if v ≤ -175 then .t20 else .noClass } ∧
       t.ctl.alloc.derate = derate.toNat ∧
       t.ctl.alloc.capacity = s.ctl.store.settings.precool.nominal - derate.toNat ∧ t.ctl.reservationsFit ∧
       t.ctl.store = s.ctl.store) ∧
  (∀ (s : State) (tag : Octet) (supply : BitVec 16) (derate : Octet) (rest : List Telegram), s.ctl.calm →
     s.ctl.told plantPort ⟨0x31, tag, octets 2 supply.toNat ++ [derate]⟩ rest →
     let c := s.ctl
     let v := max (-600) (min 1500 supply.toInt)
     classOfSupply v = c.thermal.precoolClass → c.alloc.sum ≤ c.store.settings.precool.nominal - derate.toNat →
     exec (.chillerSample plantPort tag supply derate) s = .next (s.withCtl ({ c with
       thermal := { c.thermal with supply := some v, derate := derate.toNat }
       alloc := { c.alloc with
         derate := derate.toNat,
             capacity := c.store.settings.precool.nominal - derate.toNat } }.taken plantPort rest))) ∧
  (∀ (s : State) (tag : Octet) (supply : BitVec 16) (derate : Octet) (rest : List Telegram), s.ctl.calm →
     s.ctl.told plantPort ⟨0x31, tag, octets 2 supply.toNat ++ [derate]⟩ rest →
     let c := s.ctl
     let v := max (-600) (min 1500 supply.toInt)
     let new := classOfSupply v
     new ≠ c.thermal.precoolClass → c.alloc.sum ≤ c.store.settings.precool.nominal - derate.toNat →
     let step := c.store.settings.ramp.step * 100
     let offered := fun n : Nozzle => c.store.settings.ramp.permitted (c.ctx n).vclass ((c.ctx n).band.getD 7) new
     let records := allNozzles.foldl (fun l n =>
         let x := c.ctx n
         if x.state = .ramping ∨ x.state = .hold then (match x.auth, x.entry, offered n with
           | some a, some e, some q => if new.warmth ≤ e.precoolClass.warmth then l else changed a.seq (fun r =>
             { r with rampRate := some q.rate, precoolClass := some new, degraded := true }) l
           | some a, none, some q =>
             changed a.seq (fun r => { r with rampRate := some q.rate, precoolClass := some new }) l
           | _, _, _ => l)
         else l) c.ring.records
     ∃ t, exec (.chillerSample plantPort tag supply derate) s = .next t ∧ t = s.withCtl { c with
       ports := t.ctl.ports
       thermal := { c.thermal with supply := some v, precoolClass := new, derate := derate.toNat }
       alloc := { c.alloc with
         derate := derate.toNat, capacity := c.store.settings.precool.nominal - derate.toNat }
       contexts := Vector.ofFn fun n =>
         let x := c.ctx n
         if x.state = .ramping ∨ x.state = .hold then (match x.entry, offered n with
           | some e, some q => if new.warmth ≤ e.precoolClass.warmth then x.withoutCause .precoolWarm step
             else { x with
               entry := some ⟨q.rate, min e.pEnd q.pEnd, new, e.load⟩
               target := x.target.map fun p => min p (min e.pEnd q.pEnd * 1000) }.withoutCause .precoolWarm step
           | some e, none => if new.warmth ≤ e.precoolClass.warmth then x.withoutCause .precoolWarm step
             else x.withCause .precoolWarm (c.port (portOfNozzle n)).tagCounter c.orderTime
           | none, some q => { x with
               entry := some ⟨q.rate, q.pEnd, new, q.load⟩
               target := some (min (x.measured * 1000) (q.pEnd * 1000)) }.withoutCause .precoolWarm step
           | none, none => x)
         else x
       ring := { c.ring with records := records } } ∧
       t.ctl.port plantPort = (c.taken plantPort rest).port plantPort ∧ t.ctl.port tillPort = c.port tillPort ∧
       ∀ n : Nozzle, let p := portOfNozzle n
         let shuts := (c.ctx n).state = .ramping ∧ offered n = none ∧
           ∃ e ∈ (c.ctx n).entry, e.precoolClass.warmth < new.warmth
         (shuts → c.room p → t.ctl.port p = (c.shutsFlow n).port p) ∧ (¬ shuts → t.ctl.port p = c.port p)) ∧
  (∀ (s : State) (tag : Octet) (supply : BitVec 16) (derate : Octet) (n : Nozzle) (kept : Option BankClaim)
     (rest : List Telegram), s.ctl.atRest → s.ctl.roomFor plantPort 2 → s.ctl.alloc.precoolList = [] →
     s.ctl.alloc.compressorClaim = none →
     s.ctl.told plantPort ⟨0x31, tag, octets 2 supply.toNat ++ [derate]⟩ rest →
     let c := s.ctl
     let x := c.ctx n
     let v := max (-600) (min 1500 supply.toInt)
     classOfSupply v = c.thermal.precoolClass →
     let capacity := c.store.settings.precool.nominal - derate.toNat
     let sampled := { c with
       thermal := { c.thermal with supply := some v, derate := derate.toNat }
       alloc := { c.alloc with derate := derate.toNat, capacity := capacity } }.taken plantPort rest
     let sample := Instr.chillerSample plantPort tag supply derate
     (capacity < c.alloc.sum → c.alloc.reservations.toList.sum ≤ capacity →
       let freed := { sampled with alloc := { sampled.alloc with compressorReservation := 0, compressorHeld := false } }
       exec sample s = .next (s.withCtl (if c.sched.refilling then freed.refillEnds .stopped else freed))) ∧
     (c.alloc.compressorReservation = 0 → (∀ m, m ≠ n → c.reservation m = 0) → capacity < c.reservation n →
       c.alloc.bankList = kept.toList → (∀ k ∈ kept, k.nozzle = n) →
       (∀ b, ∀ k ∈ (c.bank b).nextHolder, k.nozzle ≠ n) →
       let entry : PrecoolClaim :=
         ⟨n, (match x.auth with | some a => a.priority | none => 0), x.join.getD 0, c.reservation n⟩
       let lost := { sampled with alloc := { sampled.alloc with
         reservations := c.alloc.reservations.set n 0, bankList := []
         parked := if kept = none then c.alloc.parked else c.alloc.parked.set n kept } }
       (x.state = .leakCheck → ∃ t, exec sample s = .next t ∧ lost.endsFill t.ctl n .leakCheckInterrupted) ∧
       (x.state ≠ .leakCheck → ∃ t, exec sample s = .next t ∧ t = s.withCtl { lost with
         ports := t.ctl.ports
         alloc := { lost.alloc with precoolList := [entry] }
         contexts := c.contexts.set n (x.withCause .derateShed (c.port (portOfNozzle n)).tagCounter c.orderTime) } ∧
         (c.room (portOfNozzle n) → t.ctl.port (portOfNozzle n) =
           (if x.state = .ramping then c.shutsFlow n else c).port (portOfNozzle n)) ∧
         ∀ q, q ≠ portOfNozzle n → t.ctl.port q = lost.port q))) ∧
  (∀ (c : Controller) (n : Nozzle),
     let l := c.shedOrder
     let d := c.shed.ctl
     let join := fun n : Nozzle => (c.ctx n).join.getD 0
     let second := fun n : Nozzle => (∃ k ∈ c.alloc.bankList, k.nozzle = n) ∨
       (∃ b : BankId, ∃ k ∈ (c.bank b).nextHolder, k.nozzle = n) ∨ (∀ b : BankId,
           (c.bank b).holder ≠ some (.nozzle n)) ∨
       (∃ b : BankId, (c.bank b).holder = some (.nozzle n) ∧
         ((c.bank b).releasePending = true ∨ ∃ o ∈ (c.bank b).order, o.action = .closed))
     let shedAll := fun k : Nat => ∀ n, d.reservation n = if n ∈ l.take k then 0 else c.reservation n
     let left := fun k : Nat => ((allNozzles.filter fun n => !(l.take k).contains n).map c.reservation).sum
     (n ∈ l ↔ 0 < c.reservation n) ∧
     (l.Pairwise fun n m => second n ∧ ¬ second m ∨ (second n ↔ second m) ∧ join m ≤ join n) ∧
     (c.alloc.sum ≤ c.alloc.capacity → d = c) ∧
     (c.alloc.capacity < c.alloc.sum → d.alloc.compressorReservation = 0 ∧ ∃ k : Fin 7, shedAll k.val ∧
       left k.val ≤ c.alloc.capacity ∧ (∀ j : Fin 7, j.val < k.val → c.alloc.capacity < left j.val) ∧
       (n ∈ l.take k.val → (c.ctx n).state ≠ .leakCheck →
         ⟨n, (match (c.ctx n).auth with | some a => a.priority | none => 0), join n, c.reservation n⟩ ∈
           d.alloc.precoolList)))

/-- R86, R89, R90: an AMBIENT_SAMPLE replaces all three sensors, a value from −50.0 °C to +70.0 °C VALID and any
other INVALID. With a reduced value the condition is KNOWN, the hold timer stopped and the band that value's; with
none a KNOWN condition is HELD for 60 s with its value and its band by the edges in force, a HELD one runs on, and an
UNKNOWN one keeps band 7. The hold timer's expiry makes the condition UNKNOWN and the band 7. R86 to R88: the reduced
ambient temperature: by the mode where every sensor it uses is VALID, otherwise the floor of the equal average of the
VALID sensors, floors taken toward minus infinity; none where no sensor is VALID. R90: with strictly rising edges,
band k from 1 to 6 covers the values from edge k−1 inclusive to edge k exclusive, band 0 everything below edge 0, and
band 7 everything from edge 6 up. A condition that is not UNKNOWN without a reduced value, which no run reaches, is
banded 7 by the model's choice (log entry 25). -/
def Obligations.ambient_is_reduced_and_banded : Prop :=
  (∀ (s : State) (tag : Octet) (a1 a2 a3 : BitVec 16) (rest : List Telegram), s.ctl.atRest →
     let c := s.ctl
     let m := c.thermal
     let g := c.store.settings.ambient
     let sensor := fun v : BitVec 16 => if -500 ≤ v.toInt ∧ v.toInt ≤ 700 then some v.toInt else none
     let seen := { m with a1 := sensor a1, a2 := sensor a2, a3 := sensor a3 }
     let banded := fun v : Int => Fin.ofNat 8 (g.edges.toList.countP fun e => e ≤ v)
     let after : Thermal := match reduceAmbient g.mode (sensor a1) (sensor a2) (sensor a3), m.condition, m.reduced with
       | some v, _, _ => { seen with reduced := some v, condition := .known, holdTimer := none, band := banded v }
       | none, .known, some v => { seen with condition := .held, holdTimer := some 60000, band := banded v }
       | none, .known, none => { seen with condition := .held, holdTimer := some 60000, band := 7 }
       | none, .held, some v => { seen with band := banded v }
       | none, _, _ => { seen with band := 7 }
     (c.told plantPort ⟨0x32, tag, octets 2 a1.toNat ++ octets 2 a2.toNat ++ octets 2 a3.toNat⟩ rest →
       exec (.ambientSample plantPort tag a1 a2 a3) s =
         .next (s.withCtl ({ c with thermal := after }.taken plantPort rest))) ∧
     (m.holdTimer.isSome = true → exec .ambientHoldExpiry s = .next (s.withCtl { c with
       thermal := { m with condition := .unknown, reduced := none, band := 7, holdTimer := none } })) ∧
     (m.holdTimer = none → exec .ambientHoldExpiry s = .next s)) ∧
  (∀ (x y z : Int),
     reduceAmbient .weighted (some x) (some y) (some z) = some (Int.fdiv (2 * x + y + z) 4) ∧
     reduceAmbient .equal (some x) (some y) (some z) = some (Int.fdiv (x + y + z) 3) ∧
     (∀ a b, reduceAmbient .primary (some x) a b = some x) ∧
     (∀ m, reduceAmbient m none (some y) (some z) = some (Int.fdiv (y + z) 2) ∧
       reduceAmbient m none (some y) none = some y ∧ reduceAmbient m none none (some z) = some z ∧
       reduceAmbient m none none none = none) ∧
     (∀ m, m ≠ .primary → reduceAmbient m (some x) none (some z) = some (Int.fdiv (x + z) 2) ∧
       reduceAmbient m (some x) (some y) none = some (Int.fdiv (x + y) 2) ∧
       reduceAmbient m (some x) none none = some x)) ∧
  (∀ (edges : Vector Int 7) (v : Int), strictlyRising edges.toList = true →
     (∀ k : Fin 6, bandOf edges v = Fin.ofNat 8 (k.val + 1) ↔ edges[k.val] ≤ v ∧ v < edges[k.val + 1]) ∧
       (bandOf edges v = 0 ↔ v < edges[0]) ∧ (bandOf edges v = 7 ↔ edges[6] ≤ v))

/-! ## The till: authorisation, tariff and ring -/

/-- R95, R138, R145, R150: an AUTHORISE of an IDLE nozzle that passes the tests: a new OPEN record with the next
sequence number, the fill limits, a context in AUTHORISED with every field from the join number on at its reset value,
its connect wait running; the answer carries the number and the price. R95, R102, R49, R50: one of a CONNECTED nozzle,
by the connected class, makes it wait for resources with a join number, its resource wait running, its entry placed on
the precool list by priority and join number. R51, R54: an amount that fits with nobody waiting is granted at once,
and the bank request made: granted a bank, preempting, or waiting (R36, R57). R95: an AUTHORISE that fails a test
changes nothing and is answered with the code of the first that fails: CLOCK_UNSET, ARGUMENT for the nozzle, STATE,
ARGUMENT for the values, RING_FULL. -/
def Obligations.nozzle_is_authorised_or_refused : Prop :=
  (∀ (s : State) (tag k prio : Octet) (n : Nozzle) (l : BitVec 32) (m : BitVec 48) (rest : List Telegram),
      s.ctl.atRest →
     let c := s.ctl
     let x := c.ctx n
     let number := BitVec.ofNat 8 (n.val + 1)
     c.asked tillPort ⟨0x20, tag, number :: octets 4 l.toNat ++ octets 6 m.toNat ++ [k, prio]⟩ rest →
     c.store.clockSet = true → x.state = .idle → x.releaseOutstanding = false →
     (c.port (portOfNozzle n)).service = .inService → (c.port (portOfNozzle n)).link = .up →
     1 ≤ l.toNat → l.toNat ≤ 9999999 → k.toNat ≤ 3 → prio.toNat ≤ 2 → c.ring.records.length < 64 →
     let v := c.store.settings.links.vehicleClass[n]
     let g := c.store.settings.meter
     let price := (c.active[(Fin.ofNat 8 ((if v = .hp then 4 else 0) + k.toNat) : Fin 8)]).toNat
     let mass := if m.toNat = 0 then none else some (min m.toNat (g.classMaxMass.of v))
     let a : Authorisation := ⟨l.toNat, mass, k.toNat, prio.toNat, price, c.ring.nextSeq⟩
     exec (.authorise tillPort tag number l m k prio) s = .next (s.withCtl
       ({ c with
           ring := { c.ring with
             records := c.ring.records ++ [newRecord c.ring.nextSeq n v a c.store.clock]
             nextSeq := succSeq c.ring.nextSeq, nextSlot := c.ring.nextSlot + 1 }
           meters := c.meters.set n { c.meter n with
             limits := some (fillLimits l.toNat mass price (g.classMaxMass.of v) (g.vMin n))
             stopReported := false, stopReport := none }
           contexts := c.contexts.set n { restContext v with
             state := .authorised, connected := x.connected, vehicleData := x.vehicleData, auth := some a
             measured := x.measured, gasTemp := x.gasTemp
             connectWait := some (c.store.settings.ramp.connectWait * 1000) } }.answered tillPort rest
         ⟨0xA0, tag, 0x00 :: octets 4 c.ring.nextSeq ++ octets 2 price⟩))) ∧
  (∀ (s : State) (tag k prio : Octet) (n : Nozzle) (l : BitVec 32) (m : BitVec 48) (rest : List Telegram),
      s.ctl.atRest →
     let c := s.ctl
     let x := c.ctx n
     let number := BitVec.ofNat 8 (n.val + 1)
     c.asked tillPort ⟨0x20, tag, number :: octets 4 l.toNat ++ octets 6 m.toNat ++ [k, prio]⟩ rest →
     c.store.clockSet = true → x.state = .connected → x.releaseOutstanding = false →
     (c.port (portOfNozzle n)).service = .inService → (c.port (portOfNozzle n)).link = .up →
     1 ≤ l.toNat → l.toNat ≤ 9999999 → k.toNat ≤ 3 → prio.toNat ≤ 2 → c.ring.records.length < 64 →
     c.joinCounter < 4294967295 → c.reservation n = 0 → (∀ e ∈ c.alloc.precoolList, e.nozzle ≠ n) →
     c.alloc.compressorClaim = none →
     let v := x.vclass
     let g := c.store.settings.meter
     let price := (c.active[(Fin.ofNat 8 ((if v = .hp then 4 else 0) + k.toNat) : Fin 8)]).toNat
     let mass := if m.toNat = 0 then none else some (min m.toNat (g.classMaxMass.of v))
     let a : Authorisation := ⟨l.toNat, mass, k.toNat, prio.toNat, price, c.ring.nextSeq⟩
     let entry : PrecoolClaim :=
       ⟨n, a.priority, c.joinCounter, c.store.settings.ramp.amount v c.thermal.band c.thermal.precoolClass⟩
     let ahead := fun e : PrecoolClaim =>
       decide (entry.priority < e.priority ∨ entry.priority = e.priority ∧ e.join ≤ entry.join)
     let claim : BankClaim := ⟨n, a.priority, c.joinCounter, v, .low, x.measured + c.store.settings.banks.differential⟩
     let waiting := { c with
       joinCounter := c.joinCounter + 1
       ring := { c.ring with
         records := c.ring.records ++ [newRecord c.ring.nextSeq n v a c.store.clock]
         nextSeq := succSeq c.ring.nextSeq, nextSlot := c.ring.nextSlot + 1 }
       meters := c.meters.set n { c.meter n with
         limits := some (fillLimits l.toNat mass price (g.classMaxMass.of v) (g.vMin n))
         stopReported := false, stopReport := none }
       contexts := c.contexts.set n { restContext v with
         state := .waitResources, connected := x.connected, vehicleData := x.vehicleData, auth := some a
         measured := x.measured, gasTemp := x.gasTemp, join := some c.joinCounter
         resourceWait := some (c.store.settings.ramp.resourceWait * 1000) } }
     let answer := fun e : Controller => e.answered tillPort rest ⟨0xA0, tag,
         0x00 :: octets 4 c.ring.nextSeq ++ octets 2 price⟩
     let list := c.alloc.precoolList.takeWhile ahead ++ entry :: c.alloc.precoolList.dropWhile ahead
     ((∀ e ∈ list.head?, c.alloc.free < e.amount) →
       exec (.authorise tillPort tag number l m k prio) s =
         .next (s.withCtl (answer { waiting with alloc := { c.alloc with precoolList := list } }))) ∧
     (c.alloc.precoolList = [] → c.alloc.bankList = [] → 0 < entry.amount → entry.amount ≤ c.alloc.free →
       c.parkedOf n = none → (∀ b, (c.bank b).holder ≠ some (.nozzle n) ∧ ∀ k ∈ (c.bank b).nextHolder, k.nozzle ≠ n) →
       c.roomFor plantPort 2 → (∀ q ∈ c.ring.records, q.seq ≠ c.ring.nextSeq) → ¬ c.storageIsLow claim →
       let granted := { waiting with
         alloc := { c.alloc with reservations := c.alloc.reservations.set n entry.amount }
         contexts := waiting.contexts.set n { waiting.ctx n with bankRequestMade := true } }
       granted.refillsWhat claim →
       exec (.authorise tillPort tag number l m k prio) s = .next (s.withCtl (answer (granted.asks claim))))) ∧
  (∀ (s : State) (tag nozzle k prio : Octet) (l : BitVec 32) (m : BitVec 48) (rest : List Telegram), s.ctl.atRest →
     let c := s.ctl
     c.asked tillPort ⟨0x20, tag, nozzle :: octets 4 l.toNat ++ octets 6 m.toNat ++ [k, prio]⟩ rest →
     let refused := fun why : Octet => exec (.authorise tillPort tag nozzle l m k prio) s =
       .next (s.withCtl (c.answered tillPort rest ⟨0xA0, tag, [why, 0, 0, 0, 0, 0, 0]⟩))
     (c.store.clockSet = false → refused 0x08) ∧
     (c.store.clockSet = true →
       (nozzle.toNat = 0 ∨ 6 < nozzle.toNat → refused 0x04) ∧
       ∀ n : Nozzle, nozzle.toNat = n.val + 1 →
         let r := c.port (portOfNozzle n)
         let ready := ((c.ctx n).state = .idle ∨ (c.ctx n).state = .connected) ∧ (c.ctx n).releaseOutstanding = false ∧
           r.service = .inService ∧ r.link = .up
         let fits := 1 ≤ l.toNat ∧ l.toNat ≤ 9999999 ∧ k.toNat ≤ 3 ∧ prio.toNat ≤ 2
         (¬ ready → refused 0x03) ∧ (ready → ¬ fits → refused 0x04) ∧
           (ready → fits → 64 ≤ c.ring.records.length → refused 0x06)))

/-- R143: a WRITE_TARIFF is answered LOCKED while the tariff lock is set, then CLOCK_UNSET while the clock is not set,
and otherwise replaces the PENDING window whole, the answer carrying the effective time; the ACTIVE window is not
touched. -/
def Obligations.tariff_is_written : Prop :=
  ∀ (s : State) (tag : Octet) (prices : Vector (BitVec 16) 8) (e : BitVec 32) (rest : List Telegram), s.ctl.atRest →
    let c := s.ctl
    c.asked tillPort ⟨0x22, tag, prices.toList.flatMap (fun v => octets 2 v.toNat) ++ octets 4 e.toNat⟩ rest →
    exec (.writeTariff tillPort tag prices e) s =
      if c.store.locks.tariffAccess then
        .next (s.withCtl (c.answered tillPort rest ⟨0xA2, tag, [0x05, 0, 0, 0, 0]⟩))
      else if c.store.clockSet = false then
        .next (s.withCtl (c.answered tillPort rest ⟨0xA2, tag, [0x08, 0, 0, 0, 0]⟩))
      else .next (s.withCtl ({ c with pendingTariff := some ⟨prices, e⟩ }.answered tillPort rest
        ⟨0xA2, tag, 0x00 :: octets 4 e.toNat⟩))

/-- R156 to R159, R161: the requests that name a record. A number that is not held is answered UNKNOWN_SEQ. READ_RECORD
of a held one answers the part its octet selects, the fields of its layout in order (R161), most significant octet
first. The check word, at a close too, is the CRC-32 of the billing layout (section 12.5). REFRESH_CHECK and
VERIFY_CHECK refuse an OPEN record STATE; a refresh writes the check word afresh and answers it; a verify answers MATCH,
MISMATCH or NOT_CHECKED. ATTACH_REFERENCE stores the reference, and clears check-valid on a CLOSED record. Neither a
read nor a verify changes any state. The fields of absent values are free values (log entry 10), and the check-valid
octet is deduced (log entry 32). -/
def Obligations.records_are_served : Prop :=
  ∀ (s : State) (tag : Octet) (seq word : BitVec 32) (part : Option Octet) (l : List Octet) (rest : List Telegram),
    s.ctl.atRest → l.length ≤ 16 →
    let c := s.ctl
    let answer := fun (d : Controller) (kind why : Octet) (body : List Octet) =>
      (.next (s.withCtl (d.answered tillPort rest ⟨kind, tag, why :: body⟩)) : Host.Outcome State Fault Refusal)
    let write := fun f : Record → Record =>
      { c with ring := { c.ring with records := changed seq.toNat f c.ring.records } }
    let found := c.ring.find seq.toNat
    let reference := fun r : Record => BitVec.ofNat 8 (r.reference.getD []).length :: r.reference.getD []
    let reason := fun r : Record => (match r.endReason with | some why => why.code | none => 0x00)
    let billing := fun r : Record => octets 6 r.metered ++ octets 2 r.ventCorrection ++ octets 6 r.billable ++
      octets 6 r.billed ++ octets 6 r.unbilled ++ octets 4 r.charge
    let flags := fun r : Record => bit r.ventUnconfirmed 0 ||| bit r.degraded 1 ||| bit r.rebased 2
    let layout := fun r : Record => octets 4 r.seq ++ [BitVec.ofNat 8 (r.nozzle.val + 1), r.vclass.code,
      BitVec.ofNat 8 r.customerClass] ++ octets 4 r.moneyLimit ++ octets 6 (r.massLimit.getD 0) ++ octets 2 r.price ++
      octets 4 r.authoriseTime.toNat ++ octets 4 (r.closeTime.getD 0).toNat ++ [reason r, flags r] ++ billing r ++
      reference r
    let part0 := fun r : Record => octets 4 r.seq ++ [if r.closed then 0x02 else 0x01, BitVec.ofNat 8 (r.nozzle.val + 1),
      r.vclass.code, BitVec.ofNat 8 r.customerClass, BitVec.ofNat 8 r.priority] ++ octets 4 r.moneyLimit ++
      octets 6 (r.massLimit.getD 0) ++ octets 2 r.price ++ octets 4 r.authoriseTime.toNat ++
      octets 4 (r.flowStart.getD (Config.absentFlowStart r.seq)).toNat ++ octets 4 (r.closeTime.getD 0).toNat ++
      [match r.band with | some b => BitVec.ofNat 8 b.val | none => 0xFF] ++ octets 2 (r.rampRate.getD 0) ++
      [match r.precoolClass with | some k => k.code | none => Config.absentPrecoolClass r.seq] ++
      pressureField r.endPressure ++
      [reason r, flags r ||| bit r.checkValid 3 ||| bit r.flowStart.isSome 4, BitVec.ofNat 8 r.segments.length] ++
      billing r ++ octets 4 r.checkWord.toNat ++ reference r
    let part1 := fun r : Record => octets 4 r.seq ++ BitVec.ofNat 8 r.segments.length :: r.segments.flatMap fun g =>
      [BitVec.ofNat 8 (g.bank.val + 1), g.tier.code] ++ pressureField g.openPressure ++ pressureField g.closePressure ++
        octets 6 g.mass
    (∀ r : Record, (part0 r).length = 78 + (r.reference.getD []).length ∧
      (part1 r).length = 5 + 14 * r.segments.length ∧ (layout r).length = 60 + (r.reference.getD []).length ∧
      checkWordOf r = crc32 (layout r)) ∧
    (c.asked tillPort ⟨0x23, tag, octets 4 seq.toNat ++ partField part⟩ rest →
      exec (.readRecord tillPort tag seq part) s = match found with
        | none => answer c 0xA3 0x07 []
        | some r => answer c 0xA3 0x00 (if part = some 0x01 then part1 r else part0 r)) ∧
    (c.asked tillPort ⟨0x25, tag, octets 4 seq.toNat ++ l⟩ rest →
      exec (.attachReference tillPort tag seq l) s = match found with
        | none => answer c 0xA5 0x07 [0, 0, 0, 0, 0, 0]
        | some r => answer (write fun q => { q with
              reference := if l = [] then none else some l
              checkValid := q.checkValid && !q.closed }) 0xA5 0x00
            (octets 4 r.seq ++ [if r.closed then 0x02 else 0x01, if r.checkValid && !r.closed then 0x01 else 0x00])) ∧
    (c.asked tillPort ⟨0x26, tag, octets 4 seq.toNat⟩ rest →
      exec (.refreshCheck tillPort tag seq) s = match found with
        | none => answer c 0xA6 0x07 [0, 0, 0, 0]
        | some r =>
          if r.closed then answer (write fun q => { q with checkWord := crc32 (layout q), checkValid := true }) 0xA6
            0x00 (octets 4 (crc32 (layout r)).toNat)
          else answer c 0xA6 0x03 [0, 0, 0, 0]) ∧
    (c.asked tillPort ⟨0x27, tag, octets 4 seq.toNat ++ octets 4 word.toNat⟩ rest →
      exec (.verifyCheck tillPort tag seq word) s = match found with
        | none => answer c 0xA7 0x07 [0]
        | some r =>
          if r.closed then answer c 0xA7 0x00
            [if r.checkValid = false then 0x03 else if word = crc32 (layout r) then 0x01 else 0x02]
          else answer c 0xA7 0x03 [0])

/-- R155, R154: an ACKNOWLEDGE frees the CLOSED records from the oldest up to the number named, or up to the newest
where the number lies beyond it; it stops at the first OPEN record, and a number older than the oldest frees none. The
answer carries the oldest still held, 0 where none is, and how many are held. Where a CLOSED record remains a notice
is owed: at a till port that is UP with no pacing timer running RECORDS_READY follows the answer and the timer starts,
the notice still owed where it finds no place; with the timer running, or the port DOWN, it stays owed. Nothing else
changes. That the answer goes before RECORDS_READY on an idle line is deduced (log entry 16), and so is that a notice
behind 11 waiting telegrams finds no place (log entry 17). -/
def Obligations.records_are_acknowledged : Prop :=
  ∀ (s : State) (tag : Octet) (seq : BitVec 32) (rest : List Telegram), s.ctl.atRest →
    let c := s.ctl
    c.asked tillPort ⟨0x24, tag, octets 4 seq.toNat⟩ rest →
    let upTo := if c.ring.isBeyond seq.toNat then c.ring.newest else seq.toNat
    let freed := if c.ring.isHeld upTo
      then min (c.ring.records.takeWhile fun r => r.closed).length (forwardDistance c.ring.oldest upTo + 1) else 0
    let left := c.ring.records.drop freed
    let answered := fun (owed : Bool) (pacing : Timer) =>
      { c with ring := { c.ring with records := left, noticeOwed := owed, pacing := pacing } }.answered tillPort rest
        ⟨0xA4, tag, 0x00 :: octets 4 (match left with | r :: _ => r.seq | [] => 0) ++ [BitVec.ofNat 8 left.length]⟩
    let paced := some (c.store.settings.links.pacing * 100)
    ∃ t, exec (.acknowledge tillPort tag seq) s = .next t ∧
      t = s.withCtl { c with
        ports := t.ctl.ports
        ring := { c.ring with records := left, noticeOwed := t.ctl.ring.noticeOwed, pacing := t.ctl.ring.pacing } } ∧
      c.otherPorts t.ctl tillPort ∧
      (left.any (fun r => r.closed) = false → t = s.withCtl (answered c.ring.noticeOwed c.ring.pacing)) ∧
      (left.any (fun r => r.closed) = true →
        (c.ring.pacing.isSome = true → t = s.withCtl (answered true c.ring.pacing)) ∧
        (c.ring.pacing = none → (c.port tillPort).link = .down → t = s.withCtl (answered true none)) ∧
        (c.ring.pacing = none → (c.port tillPort).link = .up →
          ((c.port tillPort).outbound.length < 11 → t = s.withCtl ((answered false paced).notices tillPort 0x63
            (octets 4 (match left with | r :: _ => r.seq | [] => 0) ++
              octets 4 (match (left.filter fun r => r.closed).getLast? with | some r => r.seq | none => 0)))) ∧
          ((c.port tillPort).outbound.length = 11 → t = s.withCtl (answered true paced))))

/-- R154: the pacing timer's expiry at a till port that is UP with room: with a notice owed and a CLOSED record held,
RECORDS_READY carries the oldest held and the newest closed number and the timer starts again; otherwise nothing is
sent and the timer is stopped, the notice no longer owed where no CLOSED record is held. -/
def Obligations.records_notice_is_paced : Prop :=
  ∀ (s : State), s.ctl.atRest → s.ctl.room tillPort → (s.ctl.port tillPort).link = .up →
    s.ctl.ring.pacing.isSome = true →
    let c := s.ctl
    exec .pacingTimerExpiry s =
      if c.ring.noticeOwed && c.ring.records.any (fun r => r.closed) then .next (s.withCtl
        { (c.sends tillPort ⟨0x63, 0x00, octets 4 c.ring.oldest ++
            octets 4 (match (c.ring.records.filter fun r => r.closed).getLast? with | some r => r.seq | none => 0)⟩) with
          ring := { c.ring with noticeOwed := false, pacing := some (c.store.settings.links.pacing * 100) } })
      else .next (s.withCtl { c with ring := { c.ring with noticeOwed := false, pacing := none } })

/-! ## Dispensers: connection, samples, confirmations -/

/-- R97, R94: a NOZZLE_CONNECT at an IDLE nozzle stores class and vehicle data, tank temperature and vehicle flags
absent where it carries none, and makes it CONNECTED; one at an AUTHORISED nozzle of the authorised class makes it
wait for resources, with a join number, and one of the other class closes the fill without flow (R96); in every other
state it is ignored. R102, R49, R50: the wait's timer starts, the connect wait stops, and a precool entry is placed by
priority and join number. R51, R54: an amount that fits with nobody waiting is granted at once and a bank request
made: STORAGE_LOW closes the fill, else a bank is granted (R36, R103), or the bank being refilled preempted (R57), or
the request waits. That every vehicle-data octet other than 00h means present is deduced (log entry 21). R100: a
NOZZLE_HANG makes a CONNECTED or COMPLETE nozzle IDLE with the connected flag cleared, a COMPLETE one losing its
authorisation; in ENDING the flag is cleared and hang seen set; in IDLE and AUTHORISED it is ignored. -/
def Obligations.nozzles_connect_and_hang : Prop :=
  (∀ (s : State) (n : Nozzle) (tag k d : Octet) (rest : List Telegram), s.ctl.atRest →
     let c := s.ctl
     let x := c.ctx n
     let p := portOfNozzle n
     c.told p ⟨0x38, tag, [k, d]⟩ rest → (k = 0x01 ∨ k = 0x02) →
     let v : VehicleClass := if k = 0x01 then .lp else .hp
     let joined := { x with
       connected := true, vehicleData := d ≠ 0, tankTemp := if d = 0 then none else x.tankTemp
       flags := if d = 0 then none else x.flags }
     (x.state = .idle → exec (.nozzleConnect p tag k d) s = .next (s.withCtl
       ({ c with contexts := c.contexts.set n { joined with state := .connected, vclass := v } }.taken p rest))) ∧
     (x.state ≠ .idle → x.state ≠ .authorised →
       exec (.nozzleConnect p tag k d) s = .next (s.withCtl (c.taken p rest))) ∧
     (x.state = .authorised → x.vclass = v → c.joinCounter < 4294967295 → c.alloc.compressorClaim = none →
       (∀ e ∈ c.alloc.precoolList, e.nozzle ≠ n) → c.reservation n = 0 → ∀ a, x.auth = some a →
       let entry : PrecoolClaim :=
         ⟨n, a.priority, c.joinCounter, c.store.settings.ramp.amount v c.thermal.band c.thermal.precoolClass⟩
       let ahead := fun e : PrecoolClaim =>
         decide (entry.priority < e.priority ∨ entry.priority = e.priority ∧ e.join ≤ entry.join)
       let list := c.alloc.precoolList.takeWhile ahead ++ entry :: c.alloc.precoolList.dropWhile ahead
       (∀ e ∈ list.head?, c.alloc.free < e.amount) → exec (.nozzleConnect p tag k d) s = .next (s.withCtl
       ({ c with
           joinCounter := c.joinCounter + 1
           contexts := c.contexts.set n { joined with
             state := .waitResources, connectWait := none, join := some c.joinCounter
             resourceWait := some (c.store.settings.ramp.resourceWait * 1000) }
           alloc := { c.alloc with precoolList := list } }.taken p rest)))) ∧
  (∀ (s : State) (n : Nozzle) (tag k d : Octet) (a : Authorisation) (r : Record) (f : FillLimits)
     (rest : List Telegram), s.ctl.calm → s.ctl.roomFor plantPort 2 →
     let c := s.ctl
     let x := c.ctx n
     let p := portOfNozzle n
     c.told p ⟨0x38, tag, [k, d]⟩ rest → (k = 0x01 ∨ k = 0x02) → x.state = .authorised → c.hasFill n a r f →
     let v : VehicleClass := if k = 0x01 then .lp else .hp
     let joined := { x with
       connected := true, vehicleData := d ≠ 0, tankTemp := if d = 0 then none else x.tankTemp
       flags := if d = 0 then none else x.flags, connectWait := none }
     (x.vclass ≠ v → ∃ t, exec (.nozzleConnect p tag k d) s = .next t ∧
       ({ c with contexts := c.contexts.set n { joined with vclass := v } }.taken p rest).closesFill t.ctl n a r f
         .cancelled) ∧
     (x.vclass = v → c.joinCounter < 4294967295 → x.bankRequestMade = false → c.wantsBank n → c.reservation n = 0 →
       let amount := c.store.settings.ramp.amount v c.thermal.band c.thermal.precoolClass
       0 < amount → amount ≤ c.alloc.free →
       let claim : BankClaim :=
         ⟨n, a.priority, c.joinCounter, v, .low, x.measured + c.store.settings.banks.differential⟩
       let waiting := { c with
         joinCounter := c.joinCounter + 1
         contexts := c.contexts.set n { joined with
           state := .waitResources, join := some c.joinCounter, bankRequestMade := true
           resourceWait := some (c.store.settings.ramp.resourceWait * 1000) }
         alloc := { c.alloc with reservations := c.alloc.reservations.set n amount } }.taken p rest
       (c.storageIsLow claim → ∃ t, exec (.nozzleConnect p tag k d) s = .next t ∧
         waiting.closesFill t.ctl n a r f .storageLow) ∧
       (¬ c.storageIsLow claim → waiting.refillsWhat claim →
         exec (.nozzleConnect p tag k d) s = .next (s.withCtl (waiting.asks claim))))) ∧
  (∀ (s : State) (n : Nozzle) (tag : Octet) (rest : List Telegram), s.ctl.atRest →
     let c := s.ctl
     let x := c.ctx n
     let p := portOfNozzle n
     let with' := fun y : Context => (.next (s.withCtl ({ c with contexts := c.contexts.set n y }.taken p rest)) :
       Host.Outcome State Fault Refusal)
     c.told p ⟨0x39, tag, []⟩ rest →
     (x.state = .connected → exec (.nozzleHang p tag) s = with' { x with state := .idle, connected := false }) ∧
     (x.state = .complete →
       exec (.nozzleHang p tag) s = with' { x with state := .idle, connected := false, auth := none }) ∧
     (x.state = .ending → exec (.nozzleHang p tag) s = with' { x with connected := false, hangSeen := true }) ∧
     (x.state = .idle ∨ x.state = .authorised → exec (.nozzleHang p tag) s = .next (s.withCtl (c.taken p rest))))

/-- R94, R134, R136: a FIELD_SAMPLE outside a fill's flow (IDLE to WAIT_RESOURCES, or COMPLETE, with the meter not
METERING) is stored, pressure and temperatures clamped, vehicle data kept only where the vehicle sends it; its count
becomes the reference, and an increment in IDLE or CONNECTED raises a PLANT_ALERT of unexplained flow. R134, R135,
R139, R121: a FIELD_SAMPLE of a ramping or holding fill that meets no end condition, in METERING. A plausible
increment adds its mass to the record and to the newest segment and clears the implausible counter, and at the stop
threshold the report is made once; an implausible one adds nothing, marks the record rebased and raises the counter,
and the third in a row makes the fault report. (The report is stated where none waits already. Whether it is taken
before the sample's judgement or waits is a free value, log entry 7: what holds for either value is stated for a calm
controller, and the whole next state for the value by which the report waits.) R121, R109, R110: in METERING, without
a report, the first condition of its table that a sample meets takes a fill in RAMPING or HOLD, and one in LEAK_CHECK,
into ENDING with its reason. R107: else a sample in the sensitive part of a settle window that differs from the
reference by more than the settle band restarts the window, or after three restarts ends the fill LEAK_CHECK_UNSTABLE.
(That the ends of R109 go before it is deduced, log entry 20; that a fill without an entry or a target skips the
conditions that name them, log entry 13; that the entry to ENDING clears the leak-check fields, log entry 26.) In
ENDING a sample is stored and metered, no more. -/
def Obligations.field_samples_are_taken : Prop :=
  (∀ (s : State) (n : Nozzle) (tag flags : Octet) (pressure : BitVec 24) (gas tank count : BitVec 16)
     (rest : List Telegram), s.ctl.atRest → s.ctl.room plantPort →
     let c := s.ctl
     let x := c.ctx n
     let m := c.meter n
     let p := portOfNozzle n
     let clamp := fun v : BitVec 16 => max (-600) (min 1500 v.toInt)
     c.told p ⟨0x3B, tag, octets 3 pressure.toNat ++ octets 2 gas.toNat ++ octets 2 tank.toNat ++ [flags] ++
       octets 2 count.toNat⟩ rest →
     x.state ∈ [.idle, .authorised, .connected, .waitResources, .complete] → m.metering = false →
     let stored := { (c.taken p rest) with
       contexts := c.contexts.set n { x with
         measured := min pressure.toNat 120000, gasTemp := some (clamp gas)
         tankTemp := if x.vehicleData then (if tank = 0x8000 then none else some (clamp tank)) else none
         flags := if x.vehicleData then some ⟨flags.getLsbD 0, flags.getLsbD 1⟩ else none }
       meters := c.meters.set n { m with reference := some count } }
     let rise := match m.reference with | some old => (count.toNat + 65536 - old.toNat) % 65536 | none => 0
     exec (.fieldSample p tag pressure gas tank flags count) s = .next (s.withCtl
       (if rise ≠ 0 ∧ (x.state = .idle ∨ x.state = .connected) then
         stored.notices plantPort 0x60 ([0x03, BitVec.ofNat 8 (n.val + 1)] ++ octets 2 rise ++ octets 2 count.toNat ++
           octets 6 (rise * c.store.settings.meter.kFactor[n]))
       else stored))) ∧
  (∀ (s : State) (n : Nozzle) (tag flags : Octet) (pressure : BitVec 24) (gas tank count old : BitVec 16)
     (a : Authorisation) (r : Record) (f : FillLimits) (rest : List Telegram), s.ctl.atRest →
     let c := s.ctl
     let x := c.ctx n
     let m := c.meter n
     let p := portOfNozzle n
     c.told p ⟨0x3B, tag, octets 3 pressure.toNat ++ octets 2 gas.toNat ++ octets 2 tank.toNat ++ [flags] ++
       octets 2 count.toNat⟩ rest →
     c.hasFill n a r f → r.segments ≠ [] → m.metering = true → m.reference = some old →
     m.stopReport = none → m.faultReport = false → (x.state = .ramping ∨ x.state = .hold) →
     let y := x.storeSample (clampPressure pressure) (clampTemperature gas) (tankTemperature tank) (vehicleFlags flags)
     y.rampEnd c.store.settings.ramp.upperBand = none →
     let rise := (count.toNat + 65536 - old.toNat) % 65536
     let mass := rise * c.store.settings.meter.kFactor[n]
     let good := rise ≤ c.store.settings.meter.maxPulses[n] ∧ r.metered + mass < 2 ^ 48
     let full := 0 < mass ∧ f.threshold ≤ r.metered + mass ∧ m.stopReported = false
     ∃ t, exec (.fieldSample p tag pressure gas tank flags count) s = .next t ∧
       (good → (full → Config.reportTakenFirst c.freeCount = false) → t = s.withCtl ({ c with
         freeCount := if full then c.freeCount + 1 else c.freeCount
         contexts := c.contexts.set n y
         meters := c.meters.set n { m with
           reference := some count, implausible := 0, stopReported := m.stopReported || decide full
           stopReport := if full then some f.kind else none }
         ring := { c.ring with records := changed a.seq (fun q : Record => if q.segments = [] then q else { q with
           metered := q.metered + mass
           segments := q.segments.dropLast ++
             (q.segments.getLast?.map fun g : Segment => { g with mass := g.mass + mass }).toList }) c.ring.records } }.taken
               p rest)) ∧
       (¬ good → (m.implausible = 2 → Config.reportTakenFirst c.freeCount = false) → t = s.withCtl ({ c with
         freeCount := if m.implausible = 2 then c.freeCount + 1 else c.freeCount
         contexts := c.contexts.set n y
         meters := c.meters.set n { m with
           reference := some count, implausible := if m.implausible < 3 then m.implausible + 1 else m.implausible
           faultReport := m.implausible == 2 }
         ring := { c.ring with records := changed a.seq (fun q => { q with rebased := true }) c.ring.records } }.taken
           p rest)) ∧
       (good → full → c.calm → (t.ctl.recordOf n).map Record.metered = some (r.metered + mass) ∧
         (t.ctl.meter n).stopReported = true ∧ (t.ctl.meter n).reference = some count ∧
         ((t.ctl.meter n).stopReport = some f.kind ∧ t.ctl.ctx n = y ∨ (t.ctl.ctx n).state = .ending ∧
           (t.ctl.ctx n).endReason = some (match f.kind with | .money => .moneyLimit | .mass => .massLimit))) ∧
       (¬ good → m.implausible = 2 → c.calm → (t.ctl.recordOf n).map Record.metered = some r.metered ∧
         (t.ctl.recordOf n).map Record.rebased = some true ∧ (t.ctl.meter n).implausible = 3 ∧
         (t.ctl.meter n).reference = some count ∧ ((t.ctl.meter n).faultReport = true ∧ t.ctl.ctx n = y ∨
           (t.ctl.ctx n).state = .ending ∧ (t.ctl.ctx n).endReason = some .meterFault))) ∧
  (∀ (s : State) (n : Nozzle) (tag flags : Octet) (pressure : BitVec 24) (gas tank count old : BitVec 16)
     (a : Authorisation) (r : Record) (f : FillLimits) (rest : List Telegram), s.ctl.calm →
     let c := s.ctl
     let x := c.ctx n
     let g := c.store.settings.ramp
     let p := portOfNozzle n
     let clamp := fun v : BitVec 16 => max (-600) (min 1500 v.toInt)
     c.told p ⟨0x3B, tag, octets 3 pressure.toNat ++ octets 2 gas.toNat ++ octets 2 tank.toNat ++ [flags] ++
       octets 2 count.toNat⟩ rest →
     c.hasFill n a r f → (c.meter n).metering = true → (c.meter n).reference = some old →
     let y := { x with
       measured := min pressure.toNat 120000, gasTemp := some (clamp gas)
       tankTemp := if x.vehicleData then (if tank = 0x8000 then none else some (clamp tank)) else none
       flags := if x.vehicleData then some ⟨flags.getLsbD 0, flags.getLsbD 1⟩ else none }
     let d := ({ c with contexts := c.contexts.set n y }.taken p rest).counted n a r f old count
     let sample := Instr.fieldSample p tag pressure gas tank flags count
     let full : Bool := x.vehicleData && flags.getLsbD 0
     let abort : Bool := x.vehicleData && flags.getLsbD 1
     let hot : Bool := x.vehicleData && tank != 0x8000 && decide (850 ≤ clamp tank)
     let most : Nat := match x.vclass with | .lp => 43750 | .hp => 87500
     let ends := fun why : EndReason => ∃ t, exec sample s = .next t ∧ d.endsFill t.ctl n why
     let ramped : Option EndReason :=
       if most < y.measured ∨ (∃ e ∈ x.entry, e.pEnd + 2000 < y.measured) then some .overPressure
       else if ∃ v ∈ x.target, v / 1000 + g.upperBand < y.measured then some .overRamp
       else if hot then some .tankHot else if abort then some .vehicleAbort else if full then some .vehicleFull
       else if ∃ e ∈ x.entry, e.pEnd ≤ y.measured then some .targetReached else none
     let checked : Option EndReason :=
       if abort then some .vehicleAbort else if full then some .vehicleFull else if hot then some .tankHot
       else if most < y.measured then some .overPressure else none
     (x.state = .ending → exec sample s = .next (s.withCtl d)) ∧
     ((d.meter n).stopReport = none → (d.meter n).faultReport = false →
       ((x.state = .ramping ∨ x.state = .hold) →
         (∀ why ∈ ramped, ends why) ∧ (ramped = none → exec sample s = .next (s.withCtl d))) ∧
       (x.state = .leakCheck →
         (∀ why ∈ checked, ends why) ∧
         (checked = none →
           let disturbed : Bool := x.phase == some .settle && x.sensitive != .over &&
             (decide (x.reference + g.settleBand < y.measured) || decide (y.measured + g.settleBand < x.reference))
           (disturbed = false → exec sample s = .next (s.withCtl d)) ∧
           (disturbed = true → x.restarts < 3 → exec sample s = .next (s.withCtl { d with
             contexts := c.contexts.set n { y with
               reference := y.measured, restarts := x.restarts + 1, leakTimer := some (g.settleWindow * 100)
               sensitive := if g.sensitivePortion = 0 then .over
                 else if g.settleWindow ≤ g.sensitivePortion then .whole else .left (g.sensitivePortion * 100) } })) ∧
           (disturbed = true → 3 ≤ x.restarts → ends .leakCheckUnstable)))))

/-- R105, R110: a FLOW_CONFIRM that answers the flow order in flight of a fill in RAMPING, HOLD or ENDING settles it:
the flow state becomes the order's action, and where the wanted flow differs the next FLOW order goes out, as the CLOSE
does behind a FLOW OPEN in flight at the entry to ENDING. In ENDING the CLOSED confirmation orders the vent: the latest
pressure becomes the record's end pressure, if it has a flow start time, and a VENT goes out with the vent timer at 10
s. The expiry of a flow order's timer in ENDING does the same, and hands no FLOW order. A FLOW_CONFIRM that answers no
order in flight changes nothing. (Those in LEAK_CHECK are stated apart.) -/
def Obligations.flow_confirmation : Prop :=
  (∀ (s : State) (n : Nozzle) (tag generation state : Octet) (rest : List Telegram), s.ctl.atRest →
     s.ctl.room (portOfNozzle n) →
     let c := s.ctl
     let x := c.ctx n
     let p := portOfNozzle n
     c.told p ⟨0x42, tag, [generation, state]⟩ rest →
     (x.flowOrder.map (fun o => (o.tag, o.generation, o.action.code)) ≠ some (tag, generation, state) →
       exec (.flowConfirm p tag generation state) s = .next (s.withCtl (c.taken p rest))) ∧
     (∀ o, x.flowOrder = some o → o.tag = tag → o.generation = generation → o.action.code = state →
       (∀ b, (x.state = .ramping ∨ x.state = .hold ∨ x.state = .ending) → x.flowBank = some b →
         ¬ (x.state = .ending ∧ x.wanted = .closed ∧ o.action = .closed) →
         exec (.flowConfirm p tag generation state) s = .next (s.withCtl
           (if x.wanted = o.action then
             { (c.taken p rest) with contexts := c.contexts.set n { x with flow := o.action, flowOrder := none } }
           else
             { ((c.taken p rest).orders p 0x52 [x.wanted.code, b.generation]) with
               contexts := c.contexts.set n { x with
                 flow := o.action
                 flowOrder := some ⟨x.wanted, (c.port p).tagCounter, b.generation, some c.orderTime⟩ } }))) ∧
       (∀ a, x.state = .ending → x.wanted = .closed → o.action = .closed → x.auth = some a →
         exec (.flowConfirm p tag generation state) s = .next (s.withCtl
           { ((c.taken p rest).orders p 0x53 []) with
             contexts := c.contexts.set n { x with
               flow := .closed, flowOrder := none, ventOrder := some ⟨(c.port p).tagCounter, some 10000⟩ }
             ring := { c.ring with records := changed a.seq (Record.endingAt x.measured) c.ring.records } })))) ∧
  (∀ (s : State) (n : Nozzle) (o : FlowOrder) (a : Authorisation), s.ctl.atRest → s.ctl.room (portOfNozzle n) →
     let c := s.ctl
     let x := c.ctx n
     let p := portOfNozzle n
     x.state = .ending → x.flowOrder = some o → o.timer.isSome = true → x.auth = some a →
     exec (.flowOrderTimeout n) s = .next (s.withCtl { (c.orders p 0x53 []) with
       contexts := c.contexts.set n { x with
         flowOrder := none, ventOrder := some ⟨(c.port p).tagCounter, some 10000⟩ }
       ring := { c.ring with records := changed a.seq (Record.endingAt x.measured) c.ring.records } }))

/-! ## Fills -/

/-- R110, R111: in ENDING a matching VENT_DONE removes the vent order, meters its final count (R134) and sets vent
settled; the vent timer's expiry sets it too and marks the record VENT_UNCONFIRMED. A VENT_DONE that does not match
changes nothing. R42, R110: the release of the fill's bank settles the bank, its segment closed. R112, R137, R140,
R141, R151: the settling of the later of vent and bank closes the fill: its record CLOSED with its billing, close time
and check word; the totalisers raised by its metered mass; the nozzle's meter back at rest; the context COMPLETE, or
IDLE without its authorisation where the hang has been seen. R96, R154: FILL_ENDED with the record's end reason,
flags, masses and charge goes to the dispenser and to the till, behind a RECORDS_READY where no pacing timer runs at a
till port that is UP. Nothing else changes but the queues of the two ports and the till's notice. -/
def Obligations.vent_settles_and_closes_the_fill : Prop :=
  (∀ (s : State) (n : Nozzle) (tag : Octet) (count : BitVec 16) (o : VentOrder) (a : Authorisation) (r : Record)
     (rest : List Telegram), s.ctl.atRest →
     let c := s.ctl
     let x := c.ctx n
     let p := portOfNozzle n
     let settled := { x with ventOrder := none, ventSettled := true }
     x.state = .ending → x.bankSettled = false → x.auth = some a → x.ventOrder = some o →
     (c.told p ⟨0x43, tag, octets 2 count.toNat⟩ rest →
       (o.tag ≠ tag → exec (.ventDone p tag count) s = .next (s.withCtl (c.taken p rest))) ∧
       (o.tag = tag → (c.meter n).metering = true → (c.meter n).reference = some count → c.recordOf n = some r →
         r.metered < 2 ^ 48 → exec (.ventDone p tag count) s = .next (s.withCtl
           ({ c with
               contexts := c.contexts.set n settled
               meters := c.meters.set n { c.meter n with implausible := 0 } }.taken p rest)))) ∧
     (o.timer.isSome = true → exec (.ventTimeout n) s = .next (s.withCtl { c with
       contexts := c.contexts.set n settled
       ring := { c.ring with records := changed a.seq (fun r => { r with ventUnconfirmed := true }) c.ring.records } }))) ∧
  (∀ (s : State) (n : Nozzle) (count old : BitVec 16) (o : VentOrder) (a : Authorisation) (r : Record)
     (f : FillLimits) (rest : List Telegram), s.ctl.atRest →
     let c := s.ctl
     let x := c.ctx n
     let p := portOfNozzle n
     x.state = .ending → x.ventOrder = some o → c.hasFill n a r f →
     let final := ({ c with contexts := c.contexts.set n { x with ventOrder := none, ventSettled := true } }.taken p
       rest).counted n a r f old count
     (c.told p ⟨0x43, o.tag, octets 2 count.toNat⟩ rest → (c.meter n).metering = true →
         (c.meter n).reference = some old →
       (x.bankSettled = false → exec (.ventDone p o.tag count) s = .next (s.withCtl final)) ∧
       (x.bankSettled = true → ∀ q, final.recordOf n = some q → ∃ t, exec (.ventDone p o.tag count) s = .next t ∧
         final.fillCloses t.ctl n a q f ∧ final.endIsTold t.ctl n
           (q.billedAs (c.store.settings.meter.ventFor q.nozzle q.endPressure) f.bLim c.store.clock))) ∧
     (o.timer.isSome = true → x.bankSettled = true →
       let late := { c with
         contexts := c.contexts.set n { x with ventOrder := none, ventSettled := true }
         ring := { c.ring with records := changed a.seq (fun q => { q with ventUnconfirmed := true }) c.ring.records } }
       ∃ t, exec (.ventTimeout n) s = .next t ∧ late.fillCloses t.ctl n a { r with ventUnconfirmed := true } f ∧
         late.endIsTold t.ctl n ({ r with ventUnconfirmed := true }.billedAs
           (c.store.settings.meter.ventFor r.nozzle r.endPressure) f.bLim c.store.clock))) ∧
  (∀ (s : State) (b : BankId) (n : Nozzle) (o : ValveOrder) (ref : BankRef) (a : Authorisation) (r : Record)
     (f : FillLimits) (rest : List Telegram), s.ctl.atRest → s.ctl.alloc.bankList = [] →
     let c := s.ctl
     let x := c.ctx n
     b.val < c.alloc.bankCount → (c.bank b).order = some o → o.action = .closed → (c.bank b).nextHolder = none →
     (c.bank b).holder = some (.nozzle n) → x.currentBank = some ref → ref.bank = b → x.state = .ending →
     c.hasFill n a r f →
     c.told plantPort ⟨0x40, o.tag, [BitVec.ofNat 8 (b.val + 1), (c.bank b).generation, 0x02]⟩ rest →
     let settled := { (c.setBank b { c.bank b with
         state := .idle, holder := none, order := none, generation := (c.bank b).generation + 1 }) with
       contexts := c.contexts.set n { x with currentBank := none, lastBank := some ref, bankSettled := true }
       ring := { c.ring with records := changed a.seq (Record.closing (c.bank b).pressure) c.ring.records } }.taken
         plantPort rest
     let q := r.closing (c.bank b).pressure
     ∃ t, exec (.valveConfirm plantPort o.tag (BitVec.ofNat 8 (b.val + 1)) (c.bank b).generation 0x02) s = .next t ∧
       (x.ventSettled = false → t = s.withCtl settled) ∧
       (x.ventSettled = true → settled.fillCloses t.ctl n a q f ∧ settled.endIsTold t.ctl n
         (q.billedAs (c.store.settings.meter.ventFor q.nozzle q.endPressure) f.bLim c.store.clock)))

/-- R110, R109, R122: the ends that reach a fill in LEAK_CHECK, RAMPING or HOLD, with nobody waiting for precool or a
bank: each takes the fill into ENDING with its own reason. CANCEL (R99), answered OK with the nozzle, ENDING and the
record's sequence number, STOP_PRESS (R101), NOZZLE_HANG (R100), the
expiry of a flow order's timer (R105), the last second of the hold limit (R129), the stop threshold (R139), the meter
fault (R135), and a pressure lost in the settle window (R108). Each hands the dispenser the order of R110: a FLOW CLOSE
where the flow is OPEN, a VENT where it is CLOSED. The hold causes are kept; that the leak-check fields are cleared is
deduced (log entry 26). -/
def Obligations.fill_enters_ending : Prop :=
  ∀ (s : State) (n : Nozzle) (tag : Octet) (rest : List Telegram), s.ctl.calm →
    let c := s.ctl
    let x := c.ctx n
    let p := portOfNozzle n
    let number := BitVec.ofNat 8 (n.val + 1)
    let changedTo := fun y : Context => { c with contexts := c.contexts.set n y }
    let metered := fun m : Meter => { c with meters := c.meters.set n m }
    let ends := fun (i : Instr) (d : Controller) (why : EndReason) => ∃ t, exec i s = .next t ∧ d.endsFill t.ctl n why
    (x.state = .leakCheck ∨ x.state = .ramping ∨ x.state = .hold) →
    (c.asked tillPort ⟨0x21, tag, [number]⟩ rest → ends (.cancel tillPort tag number) (c.answered tillPort rest
      ⟨0xA1, tag, [0x00, number, 0x08] ++ octets 4 (match x.auth with | some a => a.seq | none => 0)⟩) .cancelled) ∧
    (c.told p ⟨0x3A, tag, []⟩ rest → ends (.stopPress p tag) (c.taken p rest) .customerStop) ∧
    (c.told p ⟨0x39, tag, []⟩ rest → ends (.nozzleHang p tag)
      ((changedTo { x with connected := false, hangSeen := true }).taken p rest) .nozzleHung) ∧
    ((∃ o ∈ x.flowOrder, o.timer.isSome = true) →
      ends (.flowOrderTimeout n) (changedTo { x with flowOrder := none }) .valveTimeout) ∧
    (x.state = .hold → x.holdTimer.running = true → c.store.settings.ramp.holdLimit ≤ x.holdUsed + 1 →
      ends (.holdPeriodExpiry n) (changedTo { x with holdUsed := x.holdUsed + 1, holdTimer := ⟨true, 1000⟩ })
        .holdTimeout) ∧
    ((c.meter n).stopReport = some .money →
      ends (.stopThresholdReached n) (metered { c.meter n with stopReport := none }) .moneyLimit) ∧
    ((c.meter n).stopReport = some .mass →
      ends (.stopThresholdReached n) (metered { c.meter n with stopReport := none }) .massLimit) ∧
    ((c.meter n).faultReport = true →
      ends (.meterFaultReport n) (metered { c.meter n with faultReport := false }) .meterFault) ∧
    (x.phase = some .settle → x.leakTimer.isSome = true → x.measured + c.store.settings.ramp.leakBand < x.reference →
      ends (.settleWindowEnd n) c .leak)

/-- R96: a fill in AUTHORISED or WAIT_RESOURCES is closed without flow, with nobody waiting for precool or a bank: at
the connect wait's expiry (R98), the resource wait's (R104), a CANCEL (R99), a STOP_PRESS (R101) and a NOZZLE_HANG
(R100). R151, R154: FILL_ENDED goes to the dispenser and to the till, behind a RECORDS_READY where no pacing timer runs
at a till port that is UP. The CANCEL is answered OK with the nozzle, its state after it and the record's sequence
number (R99); that the answer goes before RECORDS_READY and FILL_ENDED on an idle line is deduced (log entry 16). -/
def Obligations.fill_is_closed_without_flow : Prop :=
  ∀ (s : State) (n : Nozzle) (tag : Octet) (a : Authorisation) (r : Record) (f : FillLimits) (rest : List Telegram),
    s.ctl.calm →
    let c := s.ctl
    let x := c.ctx n
    let p := portOfNozzle n
    let number := BitVec.ofNat 8 (n.val + 1)
    let closes := fun (i : Instr) (d : Controller) (why : EndReason) =>
      ∃ t, exec i s = .next t ∧ d.closesFill t.ctl n a r f why
    c.hasFill n a r f →
    (x.state = .authorised → x.connectWait.isSome = true → closes (.connectWaitExpiry n) c .cancelled) ∧
    (x.state = .waitResources → x.resourceWait.isSome = true → closes (.resourceWaitExpiry n) c .waitTimeout) ∧
    (x.state = .authorised ∨ x.state = .waitResources → c.asked tillPort ⟨0x21, tag, [number]⟩ rest →
      closes (.cancel tillPort tag number) (c.answered tillPort rest
        ⟨0xA1, tag, [0x00, number, if x.connected then 0x03 else 0x01] ++ octets 4 a.seq⟩) .cancelled) ∧
    (x.state = .waitResources → c.told p ⟨0x3A, tag, []⟩ rest → closes (.stopPress p tag) (c.taken p rest) .customerStop) ∧
    (x.state = .waitResources → c.told p ⟨0x39, tag, []⟩ rest → closes (.nozzleHang p tag)
      ({ c with contexts := c.contexts.set n { x with connected := false } }.taken p rest) .cancelled)

/-- R106, R107: the phases of the leak check. The delay's expiry makes it PULSE and hands a FLOW OPEN; the OPEN
confirmation starts the pulse width, whose expiry makes it CLOSING and hands a FLOW CLOSE; the CLOSED confirmation
starts SETTLE from the latest pressure, its window and sensitive part by the settings; the sensitive part ends. A
sensitive part as long as the window lasts with it (log entry 38). -/
def Obligations.leak_check_goes_on : Prop :=
  ∀ (s : State) (n : Nozzle) (b : BankRef) (rest : List Telegram), s.ctl.atRest → s.ctl.room (portOfNozzle n) →
    let c := s.ctl
    let x := c.ctx n
    let p := portOfNozzle n
    let r := c.store.settings.ramp
    let tag := (c.port p).tagCounter
    x.flowBank = some b →
    (x.phase = some .delay → x.leakTimer.isSome = true → x.flow = .closed → x.flowOrder = none →
      exec (.pulseDelayExpiry n) s = .next (s.withCtl { (c.orders p 0x52 [0x01, b.generation]) with
        contexts := c.contexts.set n { x with
          phase := some .pulse, leakTimer := none, wanted := .opened
          flowOrder := some ⟨.opened, tag, b.generation, some (r.orderTimeout * 100)⟩ } })) ∧
    (x.phase = some .pulse → x.leakTimer.isSome = true → x.flow = .opened → x.flowOrder = none →
      exec (.pulseWidthExpiry n) s = .next (s.withCtl { (c.orders p 0x52 [0x02, b.generation]) with
        contexts := c.contexts.set n { x with
          phase := some .closing, leakTimer := none, wanted := .closed
          flowOrder := some ⟨.closed, tag, b.generation, some (r.orderTimeout * 100)⟩ } })) ∧
    (∀ o, x.flowOrder = some o → x.state = .leakCheck → x.wanted = o.action →
      (x.phase = some .pulse → o.action = .opened → c.told p ⟨0x42, o.tag, [o.generation, 0x01]⟩ rest →
        exec (.flowConfirm p o.tag o.generation 0x01) s = .next (s.withCtl ({ c with
          contexts := c.contexts.set n { x with
            flow := .opened, flowOrder := none, leakTimer := some (r.pulseWidth * 100) } }.taken p rest))) ∧
      (x.phase = some .closing → o.action = .closed → c.told p ⟨0x42, o.tag, [o.generation, 0x02]⟩ rest →
        exec (.flowConfirm p o.tag o.generation 0x02) s = .next (s.withCtl ({ c with
          contexts := c.contexts.set n { x with
            flow := .closed, flowOrder := none, phase := some .settle, reference := x.measured, restarts := 0
            leakTimer := some (r.settleWindow * 100)
            sensitive := if r.sensitivePortion = 0 then .over
              else if r.settleWindow ≤ r.sensitivePortion then .whole else .left (r.sensitivePortion * 100) } }.taken p
              rest)))) ∧
    (∀ ms, x.sensitive = .left ms → exec (.sensitivePartEnd n) s = .next (s.withCtl { c with
      contexts := c.contexts.set n { x with sensitive := .over } }))

/-- R108, R117, R130: the end of the settle window of a fill that does not leak. Judged by the P_end of its candidate
entry, of the coldest permitted entry, or its class maximum: within 1,000 kPa of it, or above, the fill enters ENDING
with VEHICLE_FULL, its leak-check fields cleared at the entry, as is deduced (log entry 26); that it does so without
vehicle data too is the model's choice (log entry 48). Below, its ramp starts:
with a permitted entry the fill is RAMPING, its target its measured pressure capped at P_end, its ramp timer at Δ, and
the record holds rate and class; with none it is in HOLD with PRECOOL_WARM, the hold accounting running. While the pause
timer runs it takes PLANT_PAUSE too: a fill with a permitted entry is in HOLD with that cause alone. Lag count, hold
time and leak-check fields start afresh. -/
def Obligations.ramp_starts : Prop :=
  ∀ (s : State) (n : Nozzle) (a : Authorisation) (w : Fin 8), s.ctl.atRest →
    let c := s.ctl
    let x := c.ctx n
    let r := c.store.settings.ramp
    let k := c.thermal.precoolClass
    let judged := match r.permitted x.vclass w k, r.coldest x.vclass w with
      | some e, _ | none, some e => e.pEnd
      | none, none => classMaximum x.vclass
    x.state = .leakCheck → x.phase = some .settle → x.leakTimer.isSome = true → x.auth = some a → x.band = some w →
    x.reference ≤ x.measured + r.leakBand →
    (judged ≤ x.measured + 1000 → c.calm →
      ∃ t, exec (.settleWindowEnd n) s = .next t ∧ c.endsFill t.ctl n .vehicleFull) ∧
    (x.measured + 1000 < judged → (c.pauseTimer.isSome = true → c.room (portOfNozzle n)) →
      let passed := { x with
        phase := none, leakTimer := none, sensitive := .over, lagCount := 0, holdUsed := 0, holdTimer := ⟨false, 1000⟩
        causes := ⟨false, false, false, false⟩ }
      let tag := (c.port (portOfNozzle n)).tagCounter
      let begins := fun y : Context => c.contexts.set n
        (if c.pauseTimer.isSome then y.withCause .plantPause tag c.orderTime else y)
      exec (.settleWindowEnd n) s = .next (s.withCtl (match r.permitted x.vclass w k with
        | some e => { (if c.pauseTimer.isSome then c.shutsFlow n else c) with
          contexts := begins { passed with
            state := .ramping, entry := some ⟨e.rate, e.pEnd, k, e.load⟩
            target := some (min (x.measured * 1000) (e.pEnd * 1000)), rampTimer := some (r.step * 100) }
          ring := { c.ring with records := changed a.seq (fun q =>
            { q with rampRate := some e.rate, precoolClass := some k }) c.ring.records } }
        | none => { c with contexts := begins { passed with
            state := .hold, causes := ⟨false, true, false, false⟩, holdTimer := ⟨true, 1000⟩ } })))

/-- R118, R119, R125, R128: a ramp step: the target rises by R × Δ, at most to P_end; the wanted flow is OPEN below
the target in kPa, else CLOSED; the lag count rises below the target less the switch band, else is 0. Below the lag
limit the FLOW order that a change calls for goes out; at the limit the fill enters HOLD with BANK_SWITCH, its target
frozen, the wanted flow CLOSED, and asks for the release of its bank. That the FLOW order goes out after the lag
part, with the wanted flow then left, is deduced (log entry 33). -/
def Obligations.ramp_step : Prop :=
  ∀ (s : State) (n : Nozzle) (e : RampInUse) (old : Nat) (b : BankRef), s.ctl.atRest → s.ctl.room (portOfNozzle n) →
    let c := s.ctl
    let x := c.ctx n
    let p := portOfNozzle n
    let r := c.store.settings.ramp
    x.state = .ramping → x.entry = some e → x.target = some old → x.rampTimer.isSome = true → x.currentBank = some b →
    let target := min (old + e.rate * (r.step * 100)) (e.pEnd * 1000)
    let wanted : Valve := if x.measured < target / 1000 then .opened else .closed
    let lag := if x.measured + r.switchBand < target / 1000 then x.lagCount + 1 else 0
    let order := fun v : Valve => if v ≠ x.flow ∧ x.flowOrder = none
      then some ⟨v, (c.port p).tagCounter, b.generation, some c.orderTime⟩ else x.flowOrder
    let sent := fun v : Valve => if v ≠ x.flow ∧ x.flowOrder = none then c.orders p 0x52 [v.code, b.generation] else c
    let released := (c.bank b.bank).released (.nozzle n) (c.port plantPort).tagCounter c.orderTime
    (lag < r.lagCount → exec (.rampStepExpiry n) s = .next (s.withCtl { (sent wanted) with
      contexts := c.contexts.set n { x with
        target := some target, lagCount := lag, wanted := wanted, flowOrder := order wanted
        rampTimer := some (r.step * 100) } })) ∧
    (r.lagCount ≤ lag → ∃ t, exec (.rampStepExpiry n) s = .next t ∧ t = s.withCtl { c with
      ports := t.ctl.ports
      contexts := c.contexts.set n { x with
        state := .hold, target := some target, lagCount := lag, wanted := .closed, flowOrder := order .closed
        rampTimer := none, causes := { x.causes with bankSwitch := true }
        holdTimer := { x.holdTimer with running := true } }
      alloc := { c.alloc with banks := c.alloc.banks.set b.bank released } } ∧
      t.ctl.port p = (sent .closed).port p ∧ ∀ q, q ≠ p → q ≠ plantPort → t.ctl.port q = c.port q)

/-- R129, R113: a completed second of HOLD below the hold limit is counted and the next begins; at each progress timer
expiry the dispenser has a FILL_PROGRESS with the fill's state, pressures, mass and running charge, and the timer
starts again. -/
def Obligations.fill_counts_its_seconds : Prop :=
  ∀ (s : State) (n : Nozzle) (a : Authorisation) (r : Record) (f : FillLimits), s.ctl.atRest →
    s.ctl.room (portOfNozzle n) →
    let c := s.ctl
    let x := c.ctx n
    (x.state = .hold → x.holdTimer.running = true → x.holdUsed + 1 < c.store.settings.ramp.holdLimit →
      exec (.holdPeriodExpiry n) s = .next (s.withCtl { c with
        contexts := c.contexts.set n { x with holdUsed := x.holdUsed + 1, holdTimer := ⟨true, 1000⟩ } })) ∧
    (c.hasFill n a r f → x.progressTimer.isSome = true →
      exec (.progressTimerExpiry n) s = .next (s.withCtl
        { (c.notices (portOfNozzle n) 0x61 ([BitVec.ofNat 8 (n.val + 1)] ++ octets 4 a.seq ++
            [x.state.code, x.causes.octet] ++ octets 3 x.measured ++ temperatureField x.gasTemp ++
            octets 3 (x.target.getD 0 / 1000) ++ octets 6 r.metered ++
            octets 4 ((min (r.metered - f.vMin) f.bLim * r.price + 50000) / 100000))) with
          contexts := c.contexts.set n { x with progressTimer := some 1000 } }))

/-- R130, R131, R128: a PAUSE_FILLS, its time at most 600 s, answered OK with the time remaining. It starts the pause
timer and adds PLANT_PAUSE to every fill in RAMPING, which enters HOLD and hands its dispenser a FLOW CLOSE where its
flow is OPEN and no flow order is in flight (R105), and to every fill in HOLD; with the timer running it
restarts it. A time of 0, and the timer's expiry, end a pause: the cause is removed from every fill that holds it, one
in HOLD left without a cause ramping again. That it leaves a fill in ENDING too, and stays where no fill is held, is
deduced (log entry 27). -/
def Obligations.fills_are_paused : Prop :=
  ∀ (s : State) (tag : Octet) (seconds : BitVec 16) (rest : List Telegram), s.ctl.atRest →
    let c := s.ctl
    let v := min seconds.toNat 600
    let paused := fun n : Nozzle =>
      (c.ctx n).withCause .plantPause (c.port (portOfNozzle n)).tagCounter c.orderTime
    let resumed := fun n : Nozzle => if (c.ctx n).state.holdsRecord
      then (c.ctx n).withoutCause .plantPause (c.store.settings.ramp.step * 100) else c.ctx n
    let answer := fun d : Controller => d.answered plantPort rest ⟨0x92, tag, 0x00 :: octets 2 v⟩
    (c.asked plantPort ⟨0x12, tag, octets 2 seconds.toNat⟩ rest →
      (v = 0 → c.pauseTimer = none → exec (.pauseFills plantPort tag seconds) s = .next (s.withCtl (answer c))) ∧
      (v ≠ 0 → c.pauseTimer.isSome = true → exec (.pauseFills plantPort tag seconds) s =
        .next (s.withCtl (answer { c with pauseTimer := some (v * 1000) }))) ∧
      (v = 0 → c.pauseTimer.isSome = true → exec (.pauseFills plantPort tag seconds) s =
        .next (s.withCtl (answer { c with pauseTimer := none, contexts := Vector.ofFn resumed }))) ∧
      (v ≠ 0 → c.pauseTimer = none → ∃ t, exec (.pauseFills plantPort tag seconds) s = .next t ∧
        t = s.withCtl { c with
          ports := t.ctl.ports, pauseTimer := some (v * 1000), contexts := Vector.ofFn paused } ∧
        t.ctl.port plantPort = (answer c).port plantPort ∧ t.ctl.port tillPort = c.port tillPort ∧
        ∀ n : Nozzle, c.room (portOfNozzle n) → t.ctl.port (portOfNozzle n) =
          (if (c.ctx n).state = .ramping then c.shutsFlow n else c).port (portOfNozzle n))) ∧
    (c.pauseTimer.isSome = true → exec .pauseTimerExpiry s =
      .next (s.withCtl { c with pauseTimer := none, contexts := Vector.ofFn resumed })) ∧
    (c.pauseTimer = none → exec .pauseTimerExpiry s = .next s)
end

