-- ==== Sys2Proof/Laws/State.lean ====
section
/-! SUPPORT. The small lemmas of the controller's updates: for each update, every field it leaves as it was, and what it
writes read back. All are true by unfolding; later proofs rewrite with them and unfold no update. -/

namespace Sys2Proof.Machine

/-! ## setPort -/

@[simp] theorem Controller.setPort_corePowered (c : Controller) (p : PortId) (r : PortRec) :
    (c.setPort p r).corePowered = c.corePowered := rfl
@[simp] theorem Controller.setPort_retainedPowered (c : Controller) (p : PortId) (r : PortRec) :
    (c.setPort p r).retainedPowered = c.retainedPowered := rfl
@[simp] theorem Controller.setPort_resetAsserted (c : Controller) (p : PortId) (r : PortRec) :
    (c.setPort p r).resetAsserted = c.resetAsserted := rfl
@[simp] theorem Controller.setPort_pendingStart (c : Controller) (p : PortId) (r : PortRec) :
    (c.setPort p r).pendingStart = c.pendingStart := rfl
@[simp] theorem Controller.setPort_store (c : Controller) (p : PortId) (r : PortRec) :
    (c.setPort p r).store = c.store := rfl
@[simp] theorem Controller.setPort_alloc (c : Controller) (p : PortId) (r : PortRec) :
    (c.setPort p r).alloc = c.alloc := rfl
@[simp] theorem Controller.setPort_sched (c : Controller) (p : PortId) (r : PortRec) :
    (c.setPort p r).sched = c.sched := rfl
@[simp] theorem Controller.setPort_thermal (c : Controller) (p : PortId) (r : PortRec) :
    (c.setPort p r).thermal = c.thermal := rfl
@[simp] theorem Controller.setPort_contexts (c : Controller) (p : PortId) (r : PortRec) :
    (c.setPort p r).contexts = c.contexts := rfl
@[simp] theorem Controller.setPort_joinCounter (c : Controller) (p : PortId) (r : PortRec) :
    (c.setPort p r).joinCounter = c.joinCounter := rfl
@[simp] theorem Controller.setPort_pauseTimer (c : Controller) (p : PortId) (r : PortRec) :
    (c.setPort p r).pauseTimer = c.pauseTimer := rfl
@[simp] theorem Controller.setPort_meters (c : Controller) (p : PortId) (r : PortRec) :
    (c.setPort p r).meters = c.meters := rfl
@[simp] theorem Controller.setPort_stationTotal (c : Controller) (p : PortId) (r : PortRec) :
    (c.setPort p r).stationTotal = c.stationTotal := rfl
@[simp] theorem Controller.setPort_nozzleTotals (c : Controller) (p : PortId) (r : PortRec) :
    (c.setPort p r).nozzleTotals = c.nozzleTotals := rfl
@[simp] theorem Controller.setPort_active (c : Controller) (p : PortId) (r : PortRec) :
    (c.setPort p r).active = c.active := rfl
@[simp] theorem Controller.setPort_pendingTariff (c : Controller) (p : PortId) (r : PortRec) :
    (c.setPort p r).pendingTariff = c.pendingTariff := rfl
@[simp] theorem Controller.setPort_ring (c : Controller) (p : PortId) (r : PortRec) :
    (c.setPort p r).ring = c.ring := rfl
@[simp] theorem Controller.setPort_owed (c : Controller) (p : PortId) (r : PortRec) :
    (c.setPort p r).owed = c.owed := rfl
@[simp] theorem Controller.setPort_freeCount (c : Controller) (p : PortId) (r : PortRec) :
    (c.setPort p r).freeCount = c.freeCount := rfl
@[simp] theorem Controller.setPort_ctx (c : Controller) (p : PortId) (r : PortRec) (u : Nozzle) :
    (c.setPort p r).ctx u = c.ctx u := rfl
@[simp] theorem Controller.setPort_meter (c : Controller) (p : PortId) (r : PortRec) (u : Nozzle) :
    (c.setPort p r).meter u = c.meter u := rfl
@[simp] theorem Controller.setPort_bank (c : Controller) (p : PortId) (r : PortRec) (d : BankId) :
    (c.setPort p r).bank d = c.bank d := rfl
@[simp] theorem Controller.setPort_running (c : Controller) (p : PortId) (r : PortRec) :
    (c.setPort p r).running = c.running := rfl

/-! ## setBank -/

@[simp] theorem Controller.setBank_corePowered (c : Controller) (b : BankId) (r : BankRec) :
    (c.setBank b r).corePowered = c.corePowered := rfl
@[simp] theorem Controller.setBank_retainedPowered (c : Controller) (b : BankId) (r : BankRec) :
    (c.setBank b r).retainedPowered = c.retainedPowered := rfl
@[simp] theorem Controller.setBank_resetAsserted (c : Controller) (b : BankId) (r : BankRec) :
    (c.setBank b r).resetAsserted = c.resetAsserted := rfl
@[simp] theorem Controller.setBank_pendingStart (c : Controller) (b : BankId) (r : BankRec) :
    (c.setBank b r).pendingStart = c.pendingStart := rfl
@[simp] theorem Controller.setBank_ports (c : Controller) (b : BankId) (r : BankRec) :
    (c.setBank b r).ports = c.ports := rfl
@[simp] theorem Controller.setBank_store (c : Controller) (b : BankId) (r : BankRec) :
    (c.setBank b r).store = c.store := rfl
@[simp] theorem Controller.setBank_sched (c : Controller) (b : BankId) (r : BankRec) :
    (c.setBank b r).sched = c.sched := rfl
@[simp] theorem Controller.setBank_thermal (c : Controller) (b : BankId) (r : BankRec) :
    (c.setBank b r).thermal = c.thermal := rfl
@[simp] theorem Controller.setBank_contexts (c : Controller) (b : BankId) (r : BankRec) :
    (c.setBank b r).contexts = c.contexts := rfl
@[simp] theorem Controller.setBank_joinCounter (c : Controller) (b : BankId) (r : BankRec) :
    (c.setBank b r).joinCounter = c.joinCounter := rfl
@[simp] theorem Controller.setBank_pauseTimer (c : Controller) (b : BankId) (r : BankRec) :
    (c.setBank b r).pauseTimer = c.pauseTimer := rfl
@[simp] theorem Controller.setBank_meters (c : Controller) (b : BankId) (r : BankRec) :
    (c.setBank b r).meters = c.meters := rfl
@[simp] theorem Controller.setBank_stationTotal (c : Controller) (b : BankId) (r : BankRec) :
    (c.setBank b r).stationTotal = c.stationTotal := rfl
@[simp] theorem Controller.setBank_nozzleTotals (c : Controller) (b : BankId) (r : BankRec) :
    (c.setBank b r).nozzleTotals = c.nozzleTotals := rfl
@[simp] theorem Controller.setBank_active (c : Controller) (b : BankId) (r : BankRec) :
    (c.setBank b r).active = c.active := rfl
@[simp] theorem Controller.setBank_pendingTariff (c : Controller) (b : BankId) (r : BankRec) :
    (c.setBank b r).pendingTariff = c.pendingTariff := rfl
@[simp] theorem Controller.setBank_ring (c : Controller) (b : BankId) (r : BankRec) :
    (c.setBank b r).ring = c.ring := rfl
@[simp] theorem Controller.setBank_owed (c : Controller) (b : BankId) (r : BankRec) :
    (c.setBank b r).owed = c.owed := rfl
@[simp] theorem Controller.setBank_freeCount (c : Controller) (b : BankId) (r : BankRec) :
    (c.setBank b r).freeCount = c.freeCount := rfl
@[simp] theorem Controller.setBank_alloc_bankCount (c : Controller) (b : BankId) (r : BankRec) :
    (c.setBank b r).alloc.bankCount = c.alloc.bankCount := rfl
@[simp] theorem Controller.setBank_alloc_derate (c : Controller) (b : BankId) (r : BankRec) :
    (c.setBank b r).alloc.derate = c.alloc.derate := rfl
@[simp] theorem Controller.setBank_alloc_capacity (c : Controller) (b : BankId) (r : BankRec) :
    (c.setBank b r).alloc.capacity = c.alloc.capacity := rfl
@[simp] theorem Controller.setBank_alloc_reservations (c : Controller) (b : BankId) (r : BankRec) :
    (c.setBank b r).alloc.reservations = c.alloc.reservations := rfl
@[simp] theorem Controller.setBank_alloc_compressorReservation (c : Controller) (b : BankId) (r : BankRec) :
    (c.setBank b r).alloc.compressorReservation = c.alloc.compressorReservation := rfl
@[simp] theorem Controller.setBank_alloc_compressorHeld (c : Controller) (b : BankId) (r : BankRec) :
    (c.setBank b r).alloc.compressorHeld = c.alloc.compressorHeld := rfl
@[simp] theorem Controller.setBank_alloc_compressorClaim (c : Controller) (b : BankId) (r : BankRec) :
    (c.setBank b r).alloc.compressorClaim = c.alloc.compressorClaim := rfl
@[simp] theorem Controller.setBank_alloc_precoolList (c : Controller) (b : BankId) (r : BankRec) :
    (c.setBank b r).alloc.precoolList = c.alloc.precoolList := rfl
@[simp] theorem Controller.setBank_alloc_bankList (c : Controller) (b : BankId) (r : BankRec) :
    (c.setBank b r).alloc.bankList = c.alloc.bankList := rfl
@[simp] theorem Controller.setBank_alloc_parked (c : Controller) (b : BankId) (r : BankRec) :
    (c.setBank b r).alloc.parked = c.alloc.parked := rfl
@[simp] theorem Controller.setBank_port (c : Controller) (b : BankId) (r : BankRec) (q : PortId) :
    (c.setBank b r).port q = c.port q := rfl
@[simp] theorem Controller.setBank_ctx (c : Controller) (b : BankId) (r : BankRec) (u : Nozzle) :
    (c.setBank b r).ctx u = c.ctx u := rfl
@[simp] theorem Controller.setBank_meter (c : Controller) (b : BankId) (r : BankRec) (u : Nozzle) :
    (c.setBank b r).meter u = c.meter u := rfl
@[simp] theorem Controller.setBank_running (c : Controller) (b : BankId) (r : BankRec) :
    (c.setBank b r).running = c.running := rfl

/-! ## setCtx -/

@[simp] theorem Controller.setCtx_corePowered (c : Controller) (n : Nozzle) (x : Context) :
    (c.setCtx n x).corePowered = c.corePowered := rfl
@[simp] theorem Controller.setCtx_retainedPowered (c : Controller) (n : Nozzle) (x : Context) :
    (c.setCtx n x).retainedPowered = c.retainedPowered := rfl
@[simp] theorem Controller.setCtx_resetAsserted (c : Controller) (n : Nozzle) (x : Context) :
    (c.setCtx n x).resetAsserted = c.resetAsserted := rfl
@[simp] theorem Controller.setCtx_pendingStart (c : Controller) (n : Nozzle) (x : Context) :
    (c.setCtx n x).pendingStart = c.pendingStart := rfl
@[simp] theorem Controller.setCtx_ports (c : Controller) (n : Nozzle) (x : Context) :
    (c.setCtx n x).ports = c.ports := rfl
@[simp] theorem Controller.setCtx_store (c : Controller) (n : Nozzle) (x : Context) :
    (c.setCtx n x).store = c.store := rfl
@[simp] theorem Controller.setCtx_alloc (c : Controller) (n : Nozzle) (x : Context) :
    (c.setCtx n x).alloc = c.alloc := rfl
@[simp] theorem Controller.setCtx_sched (c : Controller) (n : Nozzle) (x : Context) :
    (c.setCtx n x).sched = c.sched := rfl
@[simp] theorem Controller.setCtx_thermal (c : Controller) (n : Nozzle) (x : Context) :
    (c.setCtx n x).thermal = c.thermal := rfl
@[simp] theorem Controller.setCtx_joinCounter (c : Controller) (n : Nozzle) (x : Context) :
    (c.setCtx n x).joinCounter = c.joinCounter := rfl
@[simp] theorem Controller.setCtx_pauseTimer (c : Controller) (n : Nozzle) (x : Context) :
    (c.setCtx n x).pauseTimer = c.pauseTimer := rfl
@[simp] theorem Controller.setCtx_meters (c : Controller) (n : Nozzle) (x : Context) :
    (c.setCtx n x).meters = c.meters := rfl
@[simp] theorem Controller.setCtx_stationTotal (c : Controller) (n : Nozzle) (x : Context) :
    (c.setCtx n x).stationTotal = c.stationTotal := rfl
@[simp] theorem Controller.setCtx_nozzleTotals (c : Controller) (n : Nozzle) (x : Context) :
    (c.setCtx n x).nozzleTotals = c.nozzleTotals := rfl
@[simp] theorem Controller.setCtx_active (c : Controller) (n : Nozzle) (x : Context) :
    (c.setCtx n x).active = c.active := rfl
@[simp] theorem Controller.setCtx_pendingTariff (c : Controller) (n : Nozzle) (x : Context) :
    (c.setCtx n x).pendingTariff = c.pendingTariff := rfl
@[simp] theorem Controller.setCtx_ring (c : Controller) (n : Nozzle) (x : Context) : (c.setCtx n x).ring = c.ring := rfl
@[simp] theorem Controller.setCtx_owed (c : Controller) (n : Nozzle) (x : Context) : (c.setCtx n x).owed = c.owed := rfl
@[simp] theorem Controller.setCtx_freeCount (c : Controller) (n : Nozzle) (x : Context) :
    (c.setCtx n x).freeCount = c.freeCount := rfl
@[simp] theorem Controller.setCtx_port (c : Controller) (n : Nozzle) (x : Context) (q : PortId) :
    (c.setCtx n x).port q = c.port q := rfl
@[simp] theorem Controller.setCtx_meter (c : Controller) (n : Nozzle) (x : Context) (u : Nozzle) :
    (c.setCtx n x).meter u = c.meter u := rfl
@[simp] theorem Controller.setCtx_bank (c : Controller) (n : Nozzle) (x : Context) (d : BankId) :
    (c.setCtx n x).bank d = c.bank d := rfl
@[simp] theorem Controller.setCtx_running (c : Controller) (n : Nozzle) (x : Context) :
    (c.setCtx n x).running = c.running := rfl

/-! ## setMeter -/

@[simp] theorem Controller.setMeter_corePowered (c : Controller) (n : Nozzle) (m : Meter) :
    (c.setMeter n m).corePowered = c.corePowered := rfl
@[simp] theorem Controller.setMeter_retainedPowered (c : Controller) (n : Nozzle) (m : Meter) :
    (c.setMeter n m).retainedPowered = c.retainedPowered := rfl
@[simp] theorem Controller.setMeter_resetAsserted (c : Controller) (n : Nozzle) (m : Meter) :
    (c.setMeter n m).resetAsserted = c.resetAsserted := rfl
@[simp] theorem Controller.setMeter_pendingStart (c : Controller) (n : Nozzle) (m : Meter) :
    (c.setMeter n m).pendingStart = c.pendingStart := rfl
@[simp] theorem Controller.setMeter_ports (c : Controller) (n : Nozzle) (m : Meter) :
    (c.setMeter n m).ports = c.ports := rfl
@[simp] theorem Controller.setMeter_store (c : Controller) (n : Nozzle) (m : Meter) :
    (c.setMeter n m).store = c.store := rfl
@[simp] theorem Controller.setMeter_alloc (c : Controller) (n : Nozzle) (m : Meter) :
    (c.setMeter n m).alloc = c.alloc := rfl
@[simp] theorem Controller.setMeter_sched (c : Controller) (n : Nozzle) (m : Meter) :
    (c.setMeter n m).sched = c.sched := rfl
@[simp] theorem Controller.setMeter_thermal (c : Controller) (n : Nozzle) (m : Meter) :
    (c.setMeter n m).thermal = c.thermal := rfl
@[simp] theorem Controller.setMeter_contexts (c : Controller) (n : Nozzle) (m : Meter) :
    (c.setMeter n m).contexts = c.contexts := rfl
@[simp] theorem Controller.setMeter_joinCounter (c : Controller) (n : Nozzle) (m : Meter) :
    (c.setMeter n m).joinCounter = c.joinCounter := rfl
@[simp] theorem Controller.setMeter_pauseTimer (c : Controller) (n : Nozzle) (m : Meter) :
    (c.setMeter n m).pauseTimer = c.pauseTimer := rfl
@[simp] theorem Controller.setMeter_stationTotal (c : Controller) (n : Nozzle) (m : Meter) :
    (c.setMeter n m).stationTotal = c.stationTotal := rfl
@[simp] theorem Controller.setMeter_nozzleTotals (c : Controller) (n : Nozzle) (m : Meter) :
    (c.setMeter n m).nozzleTotals = c.nozzleTotals := rfl
@[simp] theorem Controller.setMeter_active (c : Controller) (n : Nozzle) (m : Meter) :
    (c.setMeter n m).active = c.active := rfl
@[simp] theorem Controller.setMeter_pendingTariff (c : Controller) (n : Nozzle) (m : Meter) :
    (c.setMeter n m).pendingTariff = c.pendingTariff := rfl
@[simp] theorem Controller.setMeter_ring (c : Controller) (n : Nozzle) (m : Meter) :
    (c.setMeter n m).ring = c.ring := rfl
@[simp] theorem Controller.setMeter_owed (c : Controller) (n : Nozzle) (m : Meter) :
    (c.setMeter n m).owed = c.owed := rfl
@[simp] theorem Controller.setMeter_freeCount (c : Controller) (n : Nozzle) (m : Meter) :
    (c.setMeter n m).freeCount = c.freeCount := rfl
@[simp] theorem Controller.setMeter_port (c : Controller) (n : Nozzle) (m : Meter) (q : PortId) :
    (c.setMeter n m).port q = c.port q := rfl
@[simp] theorem Controller.setMeter_ctx (c : Controller) (n : Nozzle) (m : Meter) (u : Nozzle) :
    (c.setMeter n m).ctx u = c.ctx u := rfl
@[simp] theorem Controller.setMeter_bank (c : Controller) (n : Nozzle) (m : Meter) (d : BankId) :
    (c.setMeter n m).bank d = c.bank d := rfl
@[simp] theorem Controller.setMeter_running (c : Controller) (n : Nozzle) (m : Meter) :
    (c.setMeter n m).running = c.running := rfl

/-! ## setReservation -/

@[simp] theorem Controller.setReservation_corePowered (c : Controller) (n : Nozzle) (v : Nat) :
    (c.setReservation n v).corePowered = c.corePowered := rfl
@[simp] theorem Controller.setReservation_retainedPowered (c : Controller) (n : Nozzle) (v : Nat) :
    (c.setReservation n v).retainedPowered = c.retainedPowered := rfl
@[simp] theorem Controller.setReservation_resetAsserted (c : Controller) (n : Nozzle) (v : Nat) :
    (c.setReservation n v).resetAsserted = c.resetAsserted := rfl
@[simp] theorem Controller.setReservation_pendingStart (c : Controller) (n : Nozzle) (v : Nat) :
    (c.setReservation n v).pendingStart = c.pendingStart := rfl
@[simp] theorem Controller.setReservation_ports (c : Controller) (n : Nozzle) (v : Nat) :
    (c.setReservation n v).ports = c.ports := rfl
@[simp] theorem Controller.setReservation_store (c : Controller) (n : Nozzle) (v : Nat) :
    (c.setReservation n v).store = c.store := rfl
@[simp] theorem Controller.setReservation_sched (c : Controller) (n : Nozzle) (v : Nat) :
    (c.setReservation n v).sched = c.sched := rfl
@[simp] theorem Controller.setReservation_thermal (c : Controller) (n : Nozzle) (v : Nat) :
    (c.setReservation n v).thermal = c.thermal := rfl
@[simp] theorem Controller.setReservation_contexts (c : Controller) (n : Nozzle) (v : Nat) :
    (c.setReservation n v).contexts = c.contexts := rfl
@[simp] theorem Controller.setReservation_joinCounter (c : Controller) (n : Nozzle) (v : Nat) :
    (c.setReservation n v).joinCounter = c.joinCounter := rfl
@[simp] theorem Controller.setReservation_pauseTimer (c : Controller) (n : Nozzle) (v : Nat) :
    (c.setReservation n v).pauseTimer = c.pauseTimer := rfl
@[simp] theorem Controller.setReservation_meters (c : Controller) (n : Nozzle) (v : Nat) :
    (c.setReservation n v).meters = c.meters := rfl
@[simp] theorem Controller.setReservation_stationTotal (c : Controller) (n : Nozzle) (v : Nat) :
    (c.setReservation n v).stationTotal = c.stationTotal := rfl
@[simp] theorem Controller.setReservation_nozzleTotals (c : Controller) (n : Nozzle) (v : Nat) :
    (c.setReservation n v).nozzleTotals = c.nozzleTotals := rfl
@[simp] theorem Controller.setReservation_active (c : Controller) (n : Nozzle) (v : Nat) :
    (c.setReservation n v).active = c.active := rfl
@[simp] theorem Controller.setReservation_pendingTariff (c : Controller) (n : Nozzle) (v : Nat) :
    (c.setReservation n v).pendingTariff = c.pendingTariff := rfl
@[simp] theorem Controller.setReservation_ring (c : Controller) (n : Nozzle) (v : Nat) :
    (c.setReservation n v).ring = c.ring := rfl
@[simp] theorem Controller.setReservation_owed (c : Controller) (n : Nozzle) (v : Nat) :
    (c.setReservation n v).owed = c.owed := rfl
@[simp] theorem Controller.setReservation_freeCount (c : Controller) (n : Nozzle) (v : Nat) :
    (c.setReservation n v).freeCount = c.freeCount := rfl
@[simp] theorem Controller.setReservation_alloc_bankCount (c : Controller) (n : Nozzle) (v : Nat) :
    (c.setReservation n v).alloc.bankCount = c.alloc.bankCount := rfl
@[simp] theorem Controller.setReservation_alloc_derate (c : Controller) (n : Nozzle) (v : Nat) :
    (c.setReservation n v).alloc.derate = c.alloc.derate := rfl
@[simp] theorem Controller.setReservation_alloc_capacity (c : Controller) (n : Nozzle) (v : Nat) :
    (c.setReservation n v).alloc.capacity = c.alloc.capacity := rfl
@[simp] theorem Controller.setReservation_alloc_compressorReservation (c : Controller) (n : Nozzle) (v : Nat) :
    (c.setReservation n v).alloc.compressorReservation = c.alloc.compressorReservation := rfl
@[simp] theorem Controller.setReservation_alloc_compressorHeld (c : Controller) (n : Nozzle) (v : Nat) :
    (c.setReservation n v).alloc.compressorHeld = c.alloc.compressorHeld := rfl
@[simp] theorem Controller.setReservation_alloc_compressorClaim (c : Controller) (n : Nozzle) (v : Nat) :
    (c.setReservation n v).alloc.compressorClaim = c.alloc.compressorClaim := rfl
@[simp] theorem Controller.setReservation_alloc_precoolList (c : Controller) (n : Nozzle) (v : Nat) :
    (c.setReservation n v).alloc.precoolList = c.alloc.precoolList := rfl
@[simp] theorem Controller.setReservation_alloc_bankList (c : Controller) (n : Nozzle) (v : Nat) :
    (c.setReservation n v).alloc.bankList = c.alloc.bankList := rfl
@[simp] theorem Controller.setReservation_alloc_parked (c : Controller) (n : Nozzle) (v : Nat) :
    (c.setReservation n v).alloc.parked = c.alloc.parked := rfl
@[simp] theorem Controller.setReservation_alloc_banks (c : Controller) (n : Nozzle) (v : Nat) :
    (c.setReservation n v).alloc.banks = c.alloc.banks := rfl
@[simp] theorem Controller.setReservation_port (c : Controller) (n : Nozzle) (v : Nat) (q : PortId) :
    (c.setReservation n v).port q = c.port q := rfl
@[simp] theorem Controller.setReservation_ctx (c : Controller) (n : Nozzle) (v : Nat) (u : Nozzle) :
    (c.setReservation n v).ctx u = c.ctx u := rfl
@[simp] theorem Controller.setReservation_meter (c : Controller) (n : Nozzle) (v : Nat) (u : Nozzle) :
    (c.setReservation n v).meter u = c.meter u := rfl
@[simp] theorem Controller.setReservation_bank (c : Controller) (n : Nozzle) (v : Nat) (d : BankId) :
    (c.setReservation n v).bank d = c.bank d := rfl
@[simp] theorem Controller.setReservation_running (c : Controller) (n : Nozzle) (v : Nat) :
    (c.setReservation n v).running = c.running := rfl

/-! ## setParked -/

@[simp] theorem Controller.setParked_corePowered (c : Controller) (n : Nozzle) (k : Option BankClaim) :
    (c.setParked n k).corePowered = c.corePowered := rfl
@[simp] theorem Controller.setParked_retainedPowered (c : Controller) (n : Nozzle) (k : Option BankClaim) :
    (c.setParked n k).retainedPowered = c.retainedPowered := rfl
@[simp] theorem Controller.setParked_resetAsserted (c : Controller) (n : Nozzle) (k : Option BankClaim) :
    (c.setParked n k).resetAsserted = c.resetAsserted := rfl
@[simp] theorem Controller.setParked_pendingStart (c : Controller) (n : Nozzle) (k : Option BankClaim) :
    (c.setParked n k).pendingStart = c.pendingStart := rfl
@[simp] theorem Controller.setParked_ports (c : Controller) (n : Nozzle) (k : Option BankClaim) :
    (c.setParked n k).ports = c.ports := rfl
@[simp] theorem Controller.setParked_store (c : Controller) (n : Nozzle) (k : Option BankClaim) :
    (c.setParked n k).store = c.store := rfl
@[simp] theorem Controller.setParked_sched (c : Controller) (n : Nozzle) (k : Option BankClaim) :
    (c.setParked n k).sched = c.sched := rfl
@[simp] theorem Controller.setParked_thermal (c : Controller) (n : Nozzle) (k : Option BankClaim) :
    (c.setParked n k).thermal = c.thermal := rfl
@[simp] theorem Controller.setParked_contexts (c : Controller) (n : Nozzle) (k : Option BankClaim) :
    (c.setParked n k).contexts = c.contexts := rfl
@[simp] theorem Controller.setParked_joinCounter (c : Controller) (n : Nozzle) (k : Option BankClaim) :
    (c.setParked n k).joinCounter = c.joinCounter := rfl
@[simp] theorem Controller.setParked_pauseTimer (c : Controller) (n : Nozzle) (k : Option BankClaim) :
    (c.setParked n k).pauseTimer = c.pauseTimer := rfl
@[simp] theorem Controller.setParked_meters (c : Controller) (n : Nozzle) (k : Option BankClaim) :
    (c.setParked n k).meters = c.meters := rfl
@[simp] theorem Controller.setParked_stationTotal (c : Controller) (n : Nozzle) (k : Option BankClaim) :
    (c.setParked n k).stationTotal = c.stationTotal := rfl
@[simp] theorem Controller.setParked_nozzleTotals (c : Controller) (n : Nozzle) (k : Option BankClaim) :
    (c.setParked n k).nozzleTotals = c.nozzleTotals := rfl
@[simp] theorem Controller.setParked_active (c : Controller) (n : Nozzle) (k : Option BankClaim) :
    (c.setParked n k).active = c.active := rfl
@[simp] theorem Controller.setParked_pendingTariff (c : Controller) (n : Nozzle) (k : Option BankClaim) :
    (c.setParked n k).pendingTariff = c.pendingTariff := rfl
@[simp] theorem Controller.setParked_ring (c : Controller) (n : Nozzle) (k : Option BankClaim) :
    (c.setParked n k).ring = c.ring := rfl
@[simp] theorem Controller.setParked_owed (c : Controller) (n : Nozzle) (k : Option BankClaim) :
    (c.setParked n k).owed = c.owed := rfl
@[simp] theorem Controller.setParked_freeCount (c : Controller) (n : Nozzle) (k : Option BankClaim) :
    (c.setParked n k).freeCount = c.freeCount := rfl
@[simp] theorem Controller.setParked_alloc_bankCount (c : Controller) (n : Nozzle) (k : Option BankClaim) :
    (c.setParked n k).alloc.bankCount = c.alloc.bankCount := rfl
@[simp] theorem Controller.setParked_alloc_derate (c : Controller) (n : Nozzle) (k : Option BankClaim) :
    (c.setParked n k).alloc.derate = c.alloc.derate := rfl
@[simp] theorem Controller.setParked_alloc_capacity (c : Controller) (n : Nozzle) (k : Option BankClaim) :
    (c.setParked n k).alloc.capacity = c.alloc.capacity := rfl
@[simp] theorem Controller.setParked_alloc_reservations (c : Controller) (n : Nozzle) (k : Option BankClaim) :
    (c.setParked n k).alloc.reservations = c.alloc.reservations := rfl
@[simp] theorem Controller.setParked_alloc_compressorReservation (c : Controller) (n : Nozzle) (k : Option BankClaim) :
    (c.setParked n k).alloc.compressorReservation = c.alloc.compressorReservation := rfl
@[simp] theorem Controller.setParked_alloc_compressorHeld (c : Controller) (n : Nozzle) (k : Option BankClaim) :
    (c.setParked n k).alloc.compressorHeld = c.alloc.compressorHeld := rfl
@[simp] theorem Controller.setParked_alloc_compressorClaim (c : Controller) (n : Nozzle) (k : Option BankClaim) :
    (c.setParked n k).alloc.compressorClaim = c.alloc.compressorClaim := rfl
@[simp] theorem Controller.setParked_alloc_precoolList (c : Controller) (n : Nozzle) (k : Option BankClaim) :
    (c.setParked n k).alloc.precoolList = c.alloc.precoolList := rfl
@[simp] theorem Controller.setParked_alloc_bankList (c : Controller) (n : Nozzle) (k : Option BankClaim) :
    (c.setParked n k).alloc.bankList = c.alloc.bankList := rfl
@[simp] theorem Controller.setParked_alloc_banks (c : Controller) (n : Nozzle) (k : Option BankClaim) :
    (c.setParked n k).alloc.banks = c.alloc.banks := rfl
@[simp] theorem Controller.setParked_port (c : Controller) (n : Nozzle) (k : Option BankClaim) (q : PortId) :
    (c.setParked n k).port q = c.port q := rfl
@[simp] theorem Controller.setParked_ctx (c : Controller) (n : Nozzle) (k : Option BankClaim) (u : Nozzle) :
    (c.setParked n k).ctx u = c.ctx u := rfl
@[simp] theorem Controller.setParked_meter (c : Controller) (n : Nozzle) (k : Option BankClaim) (u : Nozzle) :
    (c.setParked n k).meter u = c.meter u := rfl
@[simp] theorem Controller.setParked_bank (c : Controller) (n : Nozzle) (k : Option BankClaim) (d : BankId) :
    (c.setParked n k).bank d = c.bank d := rfl
@[simp] theorem Controller.setParked_running (c : Controller) (n : Nozzle) (k : Option BankClaim) :
    (c.setParked n k).running = c.running := rfl

/-! ## updCtx -/

@[simp] theorem Controller.updCtx_corePowered (c : Controller) (n : Nozzle) (f : Context → Context) :
    (c.updCtx n f).corePowered = c.corePowered := rfl
@[simp] theorem Controller.updCtx_retainedPowered (c : Controller) (n : Nozzle) (f : Context → Context) :
    (c.updCtx n f).retainedPowered = c.retainedPowered := rfl
@[simp] theorem Controller.updCtx_resetAsserted (c : Controller) (n : Nozzle) (f : Context → Context) :
    (c.updCtx n f).resetAsserted = c.resetAsserted := rfl
@[simp] theorem Controller.updCtx_pendingStart (c : Controller) (n : Nozzle) (f : Context → Context) :
    (c.updCtx n f).pendingStart = c.pendingStart := rfl
@[simp] theorem Controller.updCtx_ports (c : Controller) (n : Nozzle) (f : Context → Context) :
    (c.updCtx n f).ports = c.ports := rfl
@[simp] theorem Controller.updCtx_store (c : Controller) (n : Nozzle) (f : Context → Context) :
    (c.updCtx n f).store = c.store := rfl
@[simp] theorem Controller.updCtx_alloc (c : Controller) (n : Nozzle) (f : Context → Context) :
    (c.updCtx n f).alloc = c.alloc := rfl
@[simp] theorem Controller.updCtx_sched (c : Controller) (n : Nozzle) (f : Context → Context) :
    (c.updCtx n f).sched = c.sched := rfl
@[simp] theorem Controller.updCtx_thermal (c : Controller) (n : Nozzle) (f : Context → Context) :
    (c.updCtx n f).thermal = c.thermal := rfl
@[simp] theorem Controller.updCtx_joinCounter (c : Controller) (n : Nozzle) (f : Context → Context) :
    (c.updCtx n f).joinCounter = c.joinCounter := rfl
@[simp] theorem Controller.updCtx_pauseTimer (c : Controller) (n : Nozzle) (f : Context → Context) :
    (c.updCtx n f).pauseTimer = c.pauseTimer := rfl
@[simp] theorem Controller.updCtx_meters (c : Controller) (n : Nozzle) (f : Context → Context) :
    (c.updCtx n f).meters = c.meters := rfl
@[simp] theorem Controller.updCtx_stationTotal (c : Controller) (n : Nozzle) (f : Context → Context) :
    (c.updCtx n f).stationTotal = c.stationTotal := rfl
@[simp] theorem Controller.updCtx_nozzleTotals (c : Controller) (n : Nozzle) (f : Context → Context) :
    (c.updCtx n f).nozzleTotals = c.nozzleTotals := rfl
@[simp] theorem Controller.updCtx_active (c : Controller) (n : Nozzle) (f : Context → Context) :
    (c.updCtx n f).active = c.active := rfl
@[simp] theorem Controller.updCtx_pendingTariff (c : Controller) (n : Nozzle) (f : Context → Context) :
    (c.updCtx n f).pendingTariff = c.pendingTariff := rfl
@[simp] theorem Controller.updCtx_ring (c : Controller) (n : Nozzle) (f : Context → Context) :
    (c.updCtx n f).ring = c.ring := rfl
@[simp] theorem Controller.updCtx_owed (c : Controller) (n : Nozzle) (f : Context → Context) :
    (c.updCtx n f).owed = c.owed := rfl
@[simp] theorem Controller.updCtx_freeCount (c : Controller) (n : Nozzle) (f : Context → Context) :
    (c.updCtx n f).freeCount = c.freeCount := rfl
@[simp] theorem Controller.updCtx_port (c : Controller) (n : Nozzle) (f : Context → Context) (q : PortId) :
    (c.updCtx n f).port q = c.port q := rfl
@[simp] theorem Controller.updCtx_meter (c : Controller) (n : Nozzle) (f : Context → Context) (u : Nozzle) :
    (c.updCtx n f).meter u = c.meter u := rfl
@[simp] theorem Controller.updCtx_bank (c : Controller) (n : Nozzle) (f : Context → Context) (d : BankId) :
    (c.updCtx n f).bank d = c.bank d := rfl
@[simp] theorem Controller.updCtx_running (c : Controller) (n : Nozzle) (f : Context → Context) :
    (c.updCtx n f).running = c.running := rfl

/-! ## updBank -/

@[simp] theorem Controller.updBank_corePowered (c : Controller) (b : BankId) (f : BankRec → BankRec) :
    (c.updBank b f).corePowered = c.corePowered := rfl
@[simp] theorem Controller.updBank_retainedPowered (c : Controller) (b : BankId) (f : BankRec → BankRec) :
    (c.updBank b f).retainedPowered = c.retainedPowered := rfl
@[simp] theorem Controller.updBank_resetAsserted (c : Controller) (b : BankId) (f : BankRec → BankRec) :
    (c.updBank b f).resetAsserted = c.resetAsserted := rfl
@[simp] theorem Controller.updBank_pendingStart (c : Controller) (b : BankId) (f : BankRec → BankRec) :
    (c.updBank b f).pendingStart = c.pendingStart := rfl
@[simp] theorem Controller.updBank_ports (c : Controller) (b : BankId) (f : BankRec → BankRec) :
    (c.updBank b f).ports = c.ports := rfl
@[simp] theorem Controller.updBank_store (c : Controller) (b : BankId) (f : BankRec → BankRec) :
    (c.updBank b f).store = c.store := rfl
@[simp] theorem Controller.updBank_sched (c : Controller) (b : BankId) (f : BankRec → BankRec) :
    (c.updBank b f).sched = c.sched := rfl
@[simp] theorem Controller.updBank_thermal (c : Controller) (b : BankId) (f : BankRec → BankRec) :
    (c.updBank b f).thermal = c.thermal := rfl
@[simp] theorem Controller.updBank_contexts (c : Controller) (b : BankId) (f : BankRec → BankRec) :
    (c.updBank b f).contexts = c.contexts := rfl
@[simp] theorem Controller.updBank_joinCounter (c : Controller) (b : BankId) (f : BankRec → BankRec) :
    (c.updBank b f).joinCounter = c.joinCounter := rfl
@[simp] theorem Controller.updBank_pauseTimer (c : Controller) (b : BankId) (f : BankRec → BankRec) :
    (c.updBank b f).pauseTimer = c.pauseTimer := rfl
@[simp] theorem Controller.updBank_meters (c : Controller) (b : BankId) (f : BankRec → BankRec) :
    (c.updBank b f).meters = c.meters := rfl
@[simp] theorem Controller.updBank_stationTotal (c : Controller) (b : BankId) (f : BankRec → BankRec) :
    (c.updBank b f).stationTotal = c.stationTotal := rfl
@[simp] theorem Controller.updBank_nozzleTotals (c : Controller) (b : BankId) (f : BankRec → BankRec) :
    (c.updBank b f).nozzleTotals = c.nozzleTotals := rfl
@[simp] theorem Controller.updBank_active (c : Controller) (b : BankId) (f : BankRec → BankRec) :
    (c.updBank b f).active = c.active := rfl
@[simp] theorem Controller.updBank_pendingTariff (c : Controller) (b : BankId) (f : BankRec → BankRec) :
    (c.updBank b f).pendingTariff = c.pendingTariff := rfl
@[simp] theorem Controller.updBank_ring (c : Controller) (b : BankId) (f : BankRec → BankRec) :
    (c.updBank b f).ring = c.ring := rfl
@[simp] theorem Controller.updBank_owed (c : Controller) (b : BankId) (f : BankRec → BankRec) :
    (c.updBank b f).owed = c.owed := rfl
@[simp] theorem Controller.updBank_freeCount (c : Controller) (b : BankId) (f : BankRec → BankRec) :
    (c.updBank b f).freeCount = c.freeCount := rfl
@[simp] theorem Controller.updBank_alloc_bankCount (c : Controller) (b : BankId) (f : BankRec → BankRec) :
    (c.updBank b f).alloc.bankCount = c.alloc.bankCount := rfl
@[simp] theorem Controller.updBank_alloc_derate (c : Controller) (b : BankId) (f : BankRec → BankRec) :
    (c.updBank b f).alloc.derate = c.alloc.derate := rfl
@[simp] theorem Controller.updBank_alloc_capacity (c : Controller) (b : BankId) (f : BankRec → BankRec) :
    (c.updBank b f).alloc.capacity = c.alloc.capacity := rfl
@[simp] theorem Controller.updBank_alloc_reservations (c : Controller) (b : BankId) (f : BankRec → BankRec) :
    (c.updBank b f).alloc.reservations = c.alloc.reservations := rfl
@[simp] theorem Controller.updBank_alloc_compressorReservation (c : Controller) (b : BankId) (f : BankRec → BankRec) :
    (c.updBank b f).alloc.compressorReservation = c.alloc.compressorReservation := rfl
@[simp] theorem Controller.updBank_alloc_compressorHeld (c : Controller) (b : BankId) (f : BankRec → BankRec) :
    (c.updBank b f).alloc.compressorHeld = c.alloc.compressorHeld := rfl
@[simp] theorem Controller.updBank_alloc_compressorClaim (c : Controller) (b : BankId) (f : BankRec → BankRec) :
    (c.updBank b f).alloc.compressorClaim = c.alloc.compressorClaim := rfl
@[simp] theorem Controller.updBank_alloc_precoolList (c : Controller) (b : BankId) (f : BankRec → BankRec) :
    (c.updBank b f).alloc.precoolList = c.alloc.precoolList := rfl
@[simp] theorem Controller.updBank_alloc_bankList (c : Controller) (b : BankId) (f : BankRec → BankRec) :
    (c.updBank b f).alloc.bankList = c.alloc.bankList := rfl
@[simp] theorem Controller.updBank_alloc_parked (c : Controller) (b : BankId) (f : BankRec → BankRec) :
    (c.updBank b f).alloc.parked = c.alloc.parked := rfl
@[simp] theorem Controller.updBank_port (c : Controller) (b : BankId) (f : BankRec → BankRec) (q : PortId) :
    (c.updBank b f).port q = c.port q := rfl
@[simp] theorem Controller.updBank_ctx (c : Controller) (b : BankId) (f : BankRec → BankRec) (u : Nozzle) :
    (c.updBank b f).ctx u = c.ctx u := rfl
@[simp] theorem Controller.updBank_meter (c : Controller) (b : BankId) (f : BankRec → BankRec) (u : Nozzle) :
    (c.updBank b f).meter u = c.meter u := rfl
@[simp] theorem Controller.updBank_running (c : Controller) (b : BankId) (f : BankRec → BankRec) :
    (c.updBank b f).running = c.running := rfl

/-! ## updMeter -/

@[simp] theorem Controller.updMeter_corePowered (c : Controller) (n : Nozzle) (f : Meter → Meter) :
    (c.updMeter n f).corePowered = c.corePowered := rfl
@[simp] theorem Controller.updMeter_retainedPowered (c : Controller) (n : Nozzle) (f : Meter → Meter) :
    (c.updMeter n f).retainedPowered = c.retainedPowered := rfl
@[simp] theorem Controller.updMeter_resetAsserted (c : Controller) (n : Nozzle) (f : Meter → Meter) :
    (c.updMeter n f).resetAsserted = c.resetAsserted := rfl
@[simp] theorem Controller.updMeter_pendingStart (c : Controller) (n : Nozzle) (f : Meter → Meter) :
    (c.updMeter n f).pendingStart = c.pendingStart := rfl
@[simp] theorem Controller.updMeter_ports (c : Controller) (n : Nozzle) (f : Meter → Meter) :
    (c.updMeter n f).ports = c.ports := rfl
@[simp] theorem Controller.updMeter_store (c : Controller) (n : Nozzle) (f : Meter → Meter) :
    (c.updMeter n f).store = c.store := rfl
@[simp] theorem Controller.updMeter_alloc (c : Controller) (n : Nozzle) (f : Meter → Meter) :
    (c.updMeter n f).alloc = c.alloc := rfl
@[simp] theorem Controller.updMeter_sched (c : Controller) (n : Nozzle) (f : Meter → Meter) :
    (c.updMeter n f).sched = c.sched := rfl
@[simp] theorem Controller.updMeter_thermal (c : Controller) (n : Nozzle) (f : Meter → Meter) :
    (c.updMeter n f).thermal = c.thermal := rfl
@[simp] theorem Controller.updMeter_contexts (c : Controller) (n : Nozzle) (f : Meter → Meter) :
    (c.updMeter n f).contexts = c.contexts := rfl
@[simp] theorem Controller.updMeter_joinCounter (c : Controller) (n : Nozzle) (f : Meter → Meter) :
    (c.updMeter n f).joinCounter = c.joinCounter := rfl
@[simp] theorem Controller.updMeter_pauseTimer (c : Controller) (n : Nozzle) (f : Meter → Meter) :
    (c.updMeter n f).pauseTimer = c.pauseTimer := rfl
@[simp] theorem Controller.updMeter_stationTotal (c : Controller) (n : Nozzle) (f : Meter → Meter) :
    (c.updMeter n f).stationTotal = c.stationTotal := rfl
@[simp] theorem Controller.updMeter_nozzleTotals (c : Controller) (n : Nozzle) (f : Meter → Meter) :
    (c.updMeter n f).nozzleTotals = c.nozzleTotals := rfl
@[simp] theorem Controller.updMeter_active (c : Controller) (n : Nozzle) (f : Meter → Meter) :
    (c.updMeter n f).active = c.active := rfl
@[simp] theorem Controller.updMeter_pendingTariff (c : Controller) (n : Nozzle) (f : Meter → Meter) :
    (c.updMeter n f).pendingTariff = c.pendingTariff := rfl
@[simp] theorem Controller.updMeter_ring (c : Controller) (n : Nozzle) (f : Meter → Meter) :
    (c.updMeter n f).ring = c.ring := rfl
@[simp] theorem Controller.updMeter_owed (c : Controller) (n : Nozzle) (f : Meter → Meter) :
    (c.updMeter n f).owed = c.owed := rfl
@[simp] theorem Controller.updMeter_freeCount (c : Controller) (n : Nozzle) (f : Meter → Meter) :
    (c.updMeter n f).freeCount = c.freeCount := rfl
@[simp] theorem Controller.updMeter_port (c : Controller) (n : Nozzle) (f : Meter → Meter) (q : PortId) :
    (c.updMeter n f).port q = c.port q := rfl
@[simp] theorem Controller.updMeter_ctx (c : Controller) (n : Nozzle) (f : Meter → Meter) (u : Nozzle) :
    (c.updMeter n f).ctx u = c.ctx u := rfl
@[simp] theorem Controller.updMeter_bank (c : Controller) (n : Nozzle) (f : Meter → Meter) (d : BankId) :
    (c.updMeter n f).bank d = c.bank d := rfl
@[simp] theorem Controller.updMeter_running (c : Controller) (n : Nozzle) (f : Meter → Meter) :
    (c.updMeter n f).running = c.running := rfl

/-! ## updPort -/

@[simp] theorem Controller.updPort_corePowered (c : Controller) (p : PortId) (f : PortRec → PortRec) :
    (c.updPort p f).corePowered = c.corePowered := rfl
@[simp] theorem Controller.updPort_retainedPowered (c : Controller) (p : PortId) (f : PortRec → PortRec) :
    (c.updPort p f).retainedPowered = c.retainedPowered := rfl
@[simp] theorem Controller.updPort_resetAsserted (c : Controller) (p : PortId) (f : PortRec → PortRec) :
    (c.updPort p f).resetAsserted = c.resetAsserted := rfl
@[simp] theorem Controller.updPort_pendingStart (c : Controller) (p : PortId) (f : PortRec → PortRec) :
    (c.updPort p f).pendingStart = c.pendingStart := rfl
@[simp] theorem Controller.updPort_store (c : Controller) (p : PortId) (f : PortRec → PortRec) :
    (c.updPort p f).store = c.store := rfl
@[simp] theorem Controller.updPort_alloc (c : Controller) (p : PortId) (f : PortRec → PortRec) :
    (c.updPort p f).alloc = c.alloc := rfl
@[simp] theorem Controller.updPort_sched (c : Controller) (p : PortId) (f : PortRec → PortRec) :
    (c.updPort p f).sched = c.sched := rfl
@[simp] theorem Controller.updPort_thermal (c : Controller) (p : PortId) (f : PortRec → PortRec) :
    (c.updPort p f).thermal = c.thermal := rfl
@[simp] theorem Controller.updPort_contexts (c : Controller) (p : PortId) (f : PortRec → PortRec) :
    (c.updPort p f).contexts = c.contexts := rfl
@[simp] theorem Controller.updPort_joinCounter (c : Controller) (p : PortId) (f : PortRec → PortRec) :
    (c.updPort p f).joinCounter = c.joinCounter := rfl
@[simp] theorem Controller.updPort_pauseTimer (c : Controller) (p : PortId) (f : PortRec → PortRec) :
    (c.updPort p f).pauseTimer = c.pauseTimer := rfl
@[simp] theorem Controller.updPort_meters (c : Controller) (p : PortId) (f : PortRec → PortRec) :
    (c.updPort p f).meters = c.meters := rfl
@[simp] theorem Controller.updPort_stationTotal (c : Controller) (p : PortId) (f : PortRec → PortRec) :
    (c.updPort p f).stationTotal = c.stationTotal := rfl
@[simp] theorem Controller.updPort_nozzleTotals (c : Controller) (p : PortId) (f : PortRec → PortRec) :
    (c.updPort p f).nozzleTotals = c.nozzleTotals := rfl
@[simp] theorem Controller.updPort_active (c : Controller) (p : PortId) (f : PortRec → PortRec) :
    (c.updPort p f).active = c.active := rfl
@[simp] theorem Controller.updPort_pendingTariff (c : Controller) (p : PortId) (f : PortRec → PortRec) :
    (c.updPort p f).pendingTariff = c.pendingTariff := rfl
@[simp] theorem Controller.updPort_ring (c : Controller) (p : PortId) (f : PortRec → PortRec) :
    (c.updPort p f).ring = c.ring := rfl
@[simp] theorem Controller.updPort_owed (c : Controller) (p : PortId) (f : PortRec → PortRec) :
    (c.updPort p f).owed = c.owed := rfl
@[simp] theorem Controller.updPort_freeCount (c : Controller) (p : PortId) (f : PortRec → PortRec) :
    (c.updPort p f).freeCount = c.freeCount := rfl
@[simp] theorem Controller.updPort_ctx (c : Controller) (p : PortId) (f : PortRec → PortRec) (u : Nozzle) :
    (c.updPort p f).ctx u = c.ctx u := rfl
@[simp] theorem Controller.updPort_meter (c : Controller) (p : PortId) (f : PortRec → PortRec) (u : Nozzle) :
    (c.updPort p f).meter u = c.meter u := rfl
@[simp] theorem Controller.updPort_bank (c : Controller) (p : PortId) (f : PortRec → PortRec) (d : BankId) :
    (c.updPort p f).bank d = c.bank d := rfl
@[simp] theorem Controller.updPort_running (c : Controller) (p : PortId) (f : PortRec → PortRec) :
    (c.updPort p f).running = c.running := rfl

/-! ## updSched -/

@[simp] theorem Controller.updSched_corePowered (c : Controller) (f : Scheduler → Scheduler) :
    (c.updSched f).corePowered = c.corePowered := rfl
@[simp] theorem Controller.updSched_retainedPowered (c : Controller) (f : Scheduler → Scheduler) :
    (c.updSched f).retainedPowered = c.retainedPowered := rfl
@[simp] theorem Controller.updSched_resetAsserted (c : Controller) (f : Scheduler → Scheduler) :
    (c.updSched f).resetAsserted = c.resetAsserted := rfl
@[simp] theorem Controller.updSched_pendingStart (c : Controller) (f : Scheduler → Scheduler) :
    (c.updSched f).pendingStart = c.pendingStart := rfl
@[simp] theorem Controller.updSched_ports (c : Controller) (f : Scheduler → Scheduler) :
    (c.updSched f).ports = c.ports := rfl
@[simp] theorem Controller.updSched_store (c : Controller) (f : Scheduler → Scheduler) :
    (c.updSched f).store = c.store := rfl
@[simp] theorem Controller.updSched_alloc (c : Controller) (f : Scheduler → Scheduler) :
    (c.updSched f).alloc = c.alloc := rfl
@[simp] theorem Controller.updSched_thermal (c : Controller) (f : Scheduler → Scheduler) :
    (c.updSched f).thermal = c.thermal := rfl
@[simp] theorem Controller.updSched_contexts (c : Controller) (f : Scheduler → Scheduler) :
    (c.updSched f).contexts = c.contexts := rfl
@[simp] theorem Controller.updSched_joinCounter (c : Controller) (f : Scheduler → Scheduler) :
    (c.updSched f).joinCounter = c.joinCounter := rfl
@[simp] theorem Controller.updSched_pauseTimer (c : Controller) (f : Scheduler → Scheduler) :
    (c.updSched f).pauseTimer = c.pauseTimer := rfl
@[simp] theorem Controller.updSched_meters (c : Controller) (f : Scheduler → Scheduler) :
    (c.updSched f).meters = c.meters := rfl
@[simp] theorem Controller.updSched_stationTotal (c : Controller) (f : Scheduler → Scheduler) :
    (c.updSched f).stationTotal = c.stationTotal := rfl
@[simp] theorem Controller.updSched_nozzleTotals (c : Controller) (f : Scheduler → Scheduler) :
    (c.updSched f).nozzleTotals = c.nozzleTotals := rfl
@[simp] theorem Controller.updSched_active (c : Controller) (f : Scheduler → Scheduler) :
    (c.updSched f).active = c.active := rfl
@[simp] theorem Controller.updSched_pendingTariff (c : Controller) (f : Scheduler → Scheduler) :
    (c.updSched f).pendingTariff = c.pendingTariff := rfl
@[simp] theorem Controller.updSched_ring (c : Controller) (f : Scheduler → Scheduler) :
    (c.updSched f).ring = c.ring := rfl
@[simp] theorem Controller.updSched_owed (c : Controller) (f : Scheduler → Scheduler) :
    (c.updSched f).owed = c.owed := rfl
@[simp] theorem Controller.updSched_freeCount (c : Controller) (f : Scheduler → Scheduler) :
    (c.updSched f).freeCount = c.freeCount := rfl
@[simp] theorem Controller.updSched_port (c : Controller) (f : Scheduler → Scheduler) (q : PortId) :
    (c.updSched f).port q = c.port q := rfl
@[simp] theorem Controller.updSched_ctx (c : Controller) (f : Scheduler → Scheduler) (u : Nozzle) :
    (c.updSched f).ctx u = c.ctx u := rfl
@[simp] theorem Controller.updSched_meter (c : Controller) (f : Scheduler → Scheduler) (u : Nozzle) :
    (c.updSched f).meter u = c.meter u := rfl
@[simp] theorem Controller.updSched_bank (c : Controller) (f : Scheduler → Scheduler) (d : BankId) :
    (c.updSched f).bank d = c.bank d := rfl
@[simp] theorem Controller.updSched_running (c : Controller) (f : Scheduler → Scheduler) :
    (c.updSched f).running = c.running := rfl

/-! ## updRecord -/

@[simp] theorem Controller.updRecord_corePowered (c : Controller) (seq : Nat) (f : Record → Record) :
    (c.updRecord seq f).corePowered = c.corePowered := rfl
@[simp] theorem Controller.updRecord_retainedPowered (c : Controller) (seq : Nat) (f : Record → Record) :
    (c.updRecord seq f).retainedPowered = c.retainedPowered := rfl
@[simp] theorem Controller.updRecord_resetAsserted (c : Controller) (seq : Nat) (f : Record → Record) :
    (c.updRecord seq f).resetAsserted = c.resetAsserted := rfl
@[simp] theorem Controller.updRecord_pendingStart (c : Controller) (seq : Nat) (f : Record → Record) :
    (c.updRecord seq f).pendingStart = c.pendingStart := rfl
@[simp] theorem Controller.updRecord_ports (c : Controller) (seq : Nat) (f : Record → Record) :
    (c.updRecord seq f).ports = c.ports := rfl
@[simp] theorem Controller.updRecord_store (c : Controller) (seq : Nat) (f : Record → Record) :
    (c.updRecord seq f).store = c.store := rfl
@[simp] theorem Controller.updRecord_alloc (c : Controller) (seq : Nat) (f : Record → Record) :
    (c.updRecord seq f).alloc = c.alloc := rfl
@[simp] theorem Controller.updRecord_sched (c : Controller) (seq : Nat) (f : Record → Record) :
    (c.updRecord seq f).sched = c.sched := rfl
@[simp] theorem Controller.updRecord_thermal (c : Controller) (seq : Nat) (f : Record → Record) :
    (c.updRecord seq f).thermal = c.thermal := rfl
@[simp] theorem Controller.updRecord_contexts (c : Controller) (seq : Nat) (f : Record → Record) :
    (c.updRecord seq f).contexts = c.contexts := rfl
@[simp] theorem Controller.updRecord_joinCounter (c : Controller) (seq : Nat) (f : Record → Record) :
    (c.updRecord seq f).joinCounter = c.joinCounter := rfl
@[simp] theorem Controller.updRecord_pauseTimer (c : Controller) (seq : Nat) (f : Record → Record) :
    (c.updRecord seq f).pauseTimer = c.pauseTimer := rfl
@[simp] theorem Controller.updRecord_meters (c : Controller) (seq : Nat) (f : Record → Record) :
    (c.updRecord seq f).meters = c.meters := rfl
@[simp] theorem Controller.updRecord_stationTotal (c : Controller) (seq : Nat) (f : Record → Record) :
    (c.updRecord seq f).stationTotal = c.stationTotal := rfl
@[simp] theorem Controller.updRecord_nozzleTotals (c : Controller) (seq : Nat) (f : Record → Record) :
    (c.updRecord seq f).nozzleTotals = c.nozzleTotals := rfl
@[simp] theorem Controller.updRecord_active (c : Controller) (seq : Nat) (f : Record → Record) :
    (c.updRecord seq f).active = c.active := rfl
@[simp] theorem Controller.updRecord_pendingTariff (c : Controller) (seq : Nat) (f : Record → Record) :
    (c.updRecord seq f).pendingTariff = c.pendingTariff := rfl
@[simp] theorem Controller.updRecord_owed (c : Controller) (seq : Nat) (f : Record → Record) :
    (c.updRecord seq f).owed = c.owed := rfl
@[simp] theorem Controller.updRecord_freeCount (c : Controller) (seq : Nat) (f : Record → Record) :
    (c.updRecord seq f).freeCount = c.freeCount := rfl
@[simp] theorem Controller.updRecord_port (c : Controller) (seq : Nat) (f : Record → Record) (q : PortId) :
    (c.updRecord seq f).port q = c.port q := rfl
@[simp] theorem Controller.updRecord_ctx (c : Controller) (seq : Nat) (f : Record → Record) (u : Nozzle) :
    (c.updRecord seq f).ctx u = c.ctx u := rfl
@[simp] theorem Controller.updRecord_meter (c : Controller) (seq : Nat) (f : Record → Record) (u : Nozzle) :
    (c.updRecord seq f).meter u = c.meter u := rfl
@[simp] theorem Controller.updRecord_bank (c : Controller) (seq : Nat) (f : Record → Record) (d : BankId) :
    (c.updRecord seq f).bank d = c.bank d := rfl
@[simp] theorem Controller.updRecord_running (c : Controller) (seq : Nat) (f : Record → Record) :
    (c.updRecord seq f).running = c.running := rfl

/-! ## settleLines -/

@[simp] theorem Controller.settleLines_corePowered (c : Controller) : (c.settleLines).corePowered = c.corePowered := rfl
@[simp] theorem Controller.settleLines_retainedPowered (c : Controller) :
    (c.settleLines).retainedPowered = c.retainedPowered := rfl
@[simp] theorem Controller.settleLines_resetAsserted (c : Controller) :
    (c.settleLines).resetAsserted = c.resetAsserted := rfl
@[simp] theorem Controller.settleLines_pendingStart (c : Controller) :
    (c.settleLines).pendingStart = c.pendingStart := rfl
@[simp] theorem Controller.settleLines_store (c : Controller) : (c.settleLines).store = c.store := rfl
@[simp] theorem Controller.settleLines_alloc (c : Controller) : (c.settleLines).alloc = c.alloc := rfl
@[simp] theorem Controller.settleLines_sched (c : Controller) : (c.settleLines).sched = c.sched := rfl
@[simp] theorem Controller.settleLines_thermal (c : Controller) : (c.settleLines).thermal = c.thermal := rfl
@[simp] theorem Controller.settleLines_contexts (c : Controller) : (c.settleLines).contexts = c.contexts := rfl
@[simp] theorem Controller.settleLines_joinCounter (c : Controller) : (c.settleLines).joinCounter = c.joinCounter := rfl
@[simp] theorem Controller.settleLines_pauseTimer (c : Controller) : (c.settleLines).pauseTimer = c.pauseTimer := rfl
@[simp] theorem Controller.settleLines_meters (c : Controller) : (c.settleLines).meters = c.meters := rfl
@[simp] theorem Controller.settleLines_stationTotal (c : Controller) :
    (c.settleLines).stationTotal = c.stationTotal := rfl
@[simp] theorem Controller.settleLines_nozzleTotals (c : Controller) :
    (c.settleLines).nozzleTotals = c.nozzleTotals := rfl
@[simp] theorem Controller.settleLines_active (c : Controller) : (c.settleLines).active = c.active := rfl
@[simp] theorem Controller.settleLines_pendingTariff (c : Controller) :
    (c.settleLines).pendingTariff = c.pendingTariff := rfl
@[simp] theorem Controller.settleLines_ring (c : Controller) : (c.settleLines).ring = c.ring := rfl
@[simp] theorem Controller.settleLines_owed (c : Controller) : (c.settleLines).owed = c.owed := rfl
@[simp] theorem Controller.settleLines_freeCount (c : Controller) : (c.settleLines).freeCount = c.freeCount := rfl
@[simp] theorem Controller.settleLines_ctx (c : Controller) (u : Nozzle) :
    (c.settleLines).ctx u = c.ctx u := rfl
@[simp] theorem Controller.settleLines_meter (c : Controller) (u : Nozzle) :
    (c.settleLines).meter u = c.meter u := rfl
@[simp] theorem Controller.settleLines_bank (c : Controller) (d : BankId) :
    (c.settleLines).bank d = c.bank d := rfl
@[simp] theorem Controller.settleLines_running (c : Controller) : (c.settleLines).running = c.running := rfl

/-! ## What an update writes, read back -/

@[simp] theorem Controller.port_setPort_self (c : Controller) (p : PortId) (r : PortRec) : (c.setPort p r).port p = r := by
  simp [Controller.port, Controller.setPort]

theorem Controller.port_setPort_ne (c : Controller) {p q : PortId} (r : PortRec) (h : q ≠ p) :
    (c.setPort p r).port q = c.port q := by
  have : p.val ≠ q.val := fun e => h (Fin.ext e.symm)
  simp [Controller.port, Controller.setPort, Vector.getElem_set_ne, this]

@[simp] theorem Controller.bank_setBank_self (c : Controller) (b : BankId) (r : BankRec) : (c.setBank b r).bank b = r := by
  simp [Controller.bank, Controller.setBank]

theorem Controller.bank_setBank_ne (c : Controller) {b d : BankId} (r : BankRec) (h : d ≠ b) :
    (c.setBank b r).bank d = c.bank d := by
  have : b.val ≠ d.val := fun e => h (Fin.ext e.symm)
  simp [Controller.bank, Controller.setBank, Vector.getElem_set_ne, this]

@[simp] theorem Controller.ctx_setCtx_self (c : Controller) (n : Nozzle) (x : Context) : (c.setCtx n x).ctx n = x := by
  simp [Controller.ctx, Controller.setCtx]

theorem Controller.ctx_setCtx_ne (c : Controller) {n k : Nozzle} (x : Context) (h : k ≠ n) :
    (c.setCtx n x).ctx k = c.ctx k := by
  have : n.val ≠ k.val := fun e => h (Fin.ext e.symm)
  simp [Controller.ctx, Controller.setCtx, Vector.getElem_set_ne, this]

@[simp] theorem Controller.meter_setMeter_self (c : Controller) (n : Nozzle) (m : Meter) :
    (c.setMeter n m).meter n = m := by
  simp [Controller.meter, Controller.setMeter]

theorem Controller.meter_setMeter_ne (c : Controller) {n k : Nozzle} (m : Meter) (h : k ≠ n) :
    (c.setMeter n m).meter k = c.meter k := by
  have : n.val ≠ k.val := fun e => h (Fin.ext e.symm)
  simp [Controller.meter, Controller.setMeter, Vector.getElem_set_ne, this]

@[simp] theorem Controller.ctx_updCtx_self (c : Controller) (n : Nozzle) (f : Context → Context) :
    (c.updCtx n f).ctx n = f (c.ctx n) := Controller.ctx_setCtx_self c n _

theorem Controller.ctx_updCtx_ne (c : Controller) {n k : Nozzle} (f : Context → Context) (h : k ≠ n) :
    (c.updCtx n f).ctx k = c.ctx k := Controller.ctx_setCtx_ne c _ h

@[simp] theorem Controller.bank_updBank_self (c : Controller) (b : BankId) (f : BankRec → BankRec) :
    (c.updBank b f).bank b = f (c.bank b) := Controller.bank_setBank_self c b _

theorem Controller.bank_updBank_ne (c : Controller) {b d : BankId} (f : BankRec → BankRec) (h : d ≠ b) :
    (c.updBank b f).bank d = c.bank d := Controller.bank_setBank_ne c _ h

@[simp] theorem Controller.meter_updMeter_self (c : Controller) (n : Nozzle) (f : Meter → Meter) :
    (c.updMeter n f).meter n = f (c.meter n) := Controller.meter_setMeter_self c n _

theorem Controller.meter_updMeter_ne (c : Controller) {n k : Nozzle} (f : Meter → Meter) (h : k ≠ n) :
    (c.updMeter n f).meter k = c.meter k := Controller.meter_setMeter_ne c _ h

@[simp] theorem Controller.port_updPort_self (c : Controller) (p : PortId) (f : PortRec → PortRec) :
    (c.updPort p f).port p = f (c.port p) := Controller.port_setPort_self c p _

theorem Controller.port_updPort_ne (c : Controller) {p q : PortId} (f : PortRec → PortRec) (h : q ≠ p) :
    (c.updPort p f).port q = c.port q := Controller.port_setPort_ne c _ h

@[simp] theorem Controller.sched_updSched (c : Controller) (f : Scheduler → Scheduler) :
    (c.updSched f).sched = f c.sched := rfl

@[simp] theorem Controller.records_updRecord (c : Controller) (seq : Nat) (f : Record → Record) :
    (c.updRecord seq f).ring.records = c.ring.records.map fun r => if r.seq = seq then f r else r := rfl

/-- A port record written as it stands changes nothing. -/
theorem Controller.setPort_port (c : Controller) (p : PortId) : c.setPort p (c.port p) = c := by
  simp [Controller.port, Controller.setPort]

/-- Writing a port twice leaves the second record. -/
@[simp] theorem Controller.setPort_setPort (c : Controller) (p : PortId) (r s : PortRec) :
    (c.setPort p r).setPort p s = c.setPort p s := by
  simp [Controller.setPort]

/-- Writing a context twice leaves the second. -/
@[simp] theorem Controller.setCtx_setCtx (c : Controller) (n : Nozzle) (x y : Context) :
    (c.setCtx n x).setCtx n y = c.setCtx n y := by
  simp [Controller.setCtx]

/-- Writing a bank record twice leaves the second. -/
@[simp] theorem Controller.setBank_setBank (c : Controller) (b : BankId) (r s : BankRec) :
    (c.setBank b r).setBank b s = c.setBank b s := by
  simp [Controller.setBank]

/-- A port after every idle line has taken its head. -/
@[simp] theorem Controller.port_settleLines (c : Controller) (p : PortId) : c.settleLines.port p = (c.port p).pump := by
  simp [Controller.port, Controller.settleLines]

/-! ## Effects -/

@[simp] theorem Eff.of_ctl (c : Controller) : (Eff.of c).ctl = c := rfl

@[simp] theorem Eff.of_events (c : Controller) : (Eff.of c).events = [] := rfl

@[simp] theorem Eff.andThen_ctl (e : Eff) (f : Controller → Eff) : (e.andThen f).ctl = (f e.ctl).ctl := rfl

@[simp] theorem Eff.andThen_events (e : Eff) (f : Controller → Eff) :
    (e.andThen f).events = e.events ++ (f e.ctl).events := rfl

@[simp] theorem Eff.change_ctl (e : Eff) (f : Controller → Controller) : (e.change f).ctl = f e.ctl := rfl

@[simp] theorem Eff.change_events (e : Eff) (f : Controller → Controller) : (e.change f).events = e.events := rfl

@[simp] theorem Eff.tell_ctl (e : Eff) (l : List Event) : (e.tell l).ctl = e.ctl := rfl

@[simp] theorem Eff.tell_events (e : Eff) (l : List Event) : (e.tell l).events = e.events ++ l := rfl

end Sys2Proof.Machine
end

