-- ==== Sys2Proof/Laws/Queues.lean ====
section
/-! SUPPORT. What the outbound side of a port can do: for each operation, one lemma that says every outcome. -/

namespace Sys2Proof.Machine

/-! ## Entering a queue -/

@[simp] theorem enqueue_length (t : Telegram) (q : List Telegram) : (enqueue t q).length = q.length + 1 := by
  induction q with
  | nil => rfl
  | cons u q ih => unfold enqueue; split <;> simp [ih]

@[simp] theorem mem_enqueue (t u : Telegram) (q : List Telegram) : u ∈ enqueue t q ↔ u = t ∨ u ∈ q := by
  induction q with
  | nil => simp [enqueue]
  | cons v q ih => unfold enqueue; split <;> simp [ih, or_left_comm]

theorem enqueue_ne_nil (t : Telegram) (q : List Telegram) : enqueue t q ≠ [] := by
  intro h; simpa using congrArg List.length h

/-- R14: a queue in order of priority stays so when a telegram enters it. -/
theorem enqueue_sorted (t : Telegram) (q : List Telegram) (h : (q.map Telegram.priority).Pairwise (· ≥ ·)) :
    ((enqueue t q).map Telegram.priority).Pairwise (· ≥ ·) := by
  induction q with
  | nil => simp [enqueue]
  | cons u q ih =>
    simp only [List.map_cons, List.pairwise_cons, List.mem_map, forall_exists_index, and_imp,
      forall_apply_eq_imp_iff₂] at h
    unfold enqueue
    split
    · rename_i hu
      simp only [List.map_cons, List.pairwise_cons, List.mem_cons, List.mem_map]
      refine ⟨?_, ?_, h.2⟩
      · rintro x (rfl | ⟨y, hy, rfl⟩)
        · omega
        · have := h.1 y hy; omega
      · rintro x ⟨y, hy, rfl⟩; exact h.1 y hy
    · rename_i hu
      simp only [List.map_cons, List.pairwise_cons, List.mem_map, mem_enqueue]
      refine ⟨?_, ih h.2⟩
      rintro x ⟨y, rfl | hy, rfl⟩
      · omega
      · exact h.1 y hy

/-- A queue without its oldest FILL_PROGRESS is a sublist of it, one shorter where it holds one. -/
theorem dropOldestProgress_sublist (q : List Telegram) : (dropOldestProgress q).Sublist q := by
  induction q with
  | nil => exact List.Sublist.slnil
  | cons u q ih =>
    unfold dropOldestProgress
    split
    · exact List.sublist_cons_self u q
    · exact ih.cons_cons u

theorem dropOldestProgress_length (q : List Telegram) (h : q.any (fun u => u.kind = 0x61) = true) :
    (dropOldestProgress q).length + 1 = q.length := by
  induction q with
  | nil => simp at h
  | cons u q ih =>
    unfold dropOldestProgress
    split
    · rfl
    · rename_i hu
      simp only [List.any_cons, hu, decide_false, Bool.false_or] at h
      simp [ih h]

/-! ## The line -/

/-- R14: everything the idle line can do. -/
theorem PortRec.pump_cases (r : PortRec) :
    (r.pump = r ∧ (r.line ≠ none ∨ r.outbound = [])) ∨
      ∃ t q, r.line = none ∧ r.outbound = t :: q ∧
        ((r.orderHold = [] ∧ r.pump = { r with line := some t, outbound := q }) ∨
          ∃ o held, r.orderHold = o :: held ∧
            r.pump = { r with line := some t, outbound := enqueue o q, orderHold := held }) := by
  unfold PortRec.pump
  split
  · rename_i t q hl hq
    refine .inr ⟨t, q, hl, hq, ?_⟩
    split
    · rename_i o held hh; exact .inr ⟨o, held, hh, rfl⟩
    · rename_i hh; exact .inl ⟨hh, rfl⟩
  · rename_i h
    refine .inl ⟨rfl, ?_⟩
    cases hl : r.line with
    | some _ => exact .inl (by simp)
    | none =>
      cases hq : r.outbound with
      | nil => exact .inr rfl
      | cons t q => exact absurd hq (h t q hl)

/-- A line that is busy, or has nothing to send, stays as it is. -/
theorem PortRec.pump_eq_self (r : PortRec) (h : r.line = none → r.outbound = []) : r.pump = r := by
  rcases r.pump_cases with ⟨h', -⟩ | ⟨t, q, hl, hq, -⟩
  · exact h'
  · simp [h hl] at hq

/-- R14: after it, no line is idle while a telegram waits. -/
theorem PortRec.pump_served (r : PortRec) (h : r.pump.line = none) : r.pump.outbound = [] := by
  rcases r.pump_cases with ⟨h', hd⟩ | ⟨t, q, -, -, ⟨-, h'⟩ | ⟨o, held, -, h'⟩⟩
  · rw [h'] at h ⊢; exact hd.resolve_left (by simp [h])
  · simp [h'] at h
  · simp [h'] at h

@[simp] theorem PortRec.pump_link (r : PortRec) : r.pump.link = r.link := by
  unfold PortRec.pump; split <;> (try split) <;> rfl

@[simp] theorem PortRec.pump_inbound (r : PortRec) : r.pump.inbound = r.inbound := by
  unfold PortRec.pump; split <;> (try split) <;> rfl

@[simp] theorem PortRec.pump_answerPlace (r : PortRec) : r.pump.answerPlace = r.answerPlace := by
  unfold PortRec.pump; split <;> (try split) <;> rfl

@[simp] theorem PortRec.pump_tagCounter (r : PortRec) : r.pump.tagCounter = r.tagCounter := by
  unfold PortRec.pump; split <;> (try split) <;> rfl

/-- R14: every step leaves its lines served. -/
theorem Controller.settleLines_served (c : Controller) : c.settleLines.linesServed := by
  intro p h
  rw [Controller.port_settleLines] at h ⊢
  exact PortRec.pump_served _ h

/-- Lines that are served stay as they are. -/
theorem Controller.settleLines_of_served (c : Controller) (h : c.linesServed) : c.settleLines = c := by
  have : (Vector.ofFn fun p => c.ports[p].pump) = c.ports := by
    ext i hi
    simpa [Controller.port] using PortRec.pump_eq_self _ (h ⟨i, hi⟩)
  simp only [Controller.settleLines, this]

/-! ## Placing (R15) -/

/-- Everything that placing an answer can do. -/
theorem PortRec.placeAnswer_cases (r : PortRec) (t : Telegram) :
    (r.outbound.length < 12 ∧ r.placeAnswer t = { r with outbound := enqueue t r.outbound, answerPlace := false }) ∨
      (12 ≤ r.outbound.length ∧ r.placeAnswer t = { r with answerPlace := false }) := by
  unfold PortRec.placeAnswer; split
  · exact .inl ⟨‹_›, rfl⟩
  · exact .inr ⟨by omega, rfl⟩

/-- Everything that placing an order can do. -/
theorem PortRec.placeOrder_cases (r : PortRec) (t : Telegram) :
    (r.orderHold ≠ [] ∧ r.placeOrder t = { r with orderHold := r.orderHold ++ [t] }) ∨
      (r.orderHold = [] ∧ r.hasPlace = true ∧ r.placeOrder t = { r with outbound := enqueue t r.outbound }) ∨
      (r.orderHold = [] ∧ r.hasPlace = false ∧ (∃ u, r.outbound.getLast? = some u ∧ u.isNotice = true) ∧
        r.placeOrder t = { r with outbound := enqueue t r.outbound.dropLast }) ∨
      (r.orderHold = [] ∧ r.hasPlace = false ∧ (∀ u, r.outbound.getLast? = some u → u.isNotice = false) ∧
        r.placeOrder t = { r with orderHold := [t] }) := by
  unfold PortRec.placeOrder
  by_cases hh : r.orderHold = []
  · by_cases hp : r.hasPlace = true
    · simp [hh, hp]
    · cases hl : r.outbound.getLast? with
      | none => simp [hh, hp]
      | some u => cases hn : u.isNotice <;> simp [hh, hp, hn]
  · simp [hh]

/-- Everything that placing a notice can do. -/
theorem PortRec.placeNotice_cases (r : PortRec) (t : Telegram) :
    (r.hasPlace = true ∧ r.orderHold = [] ∧ r.placeNotice t = ({ r with outbound := enqueue t r.outbound }, true)) ∨
      (¬ (r.hasPlace = true ∧ r.orderHold = []) ∧ t.kind = 0x61 ∧ r.outbound.any (fun u => u.kind = 0x61) = true ∧
        r.placeNotice t = ({ r with outbound := enqueue t (dropOldestProgress r.outbound) }, true)) ∨
      (¬ (r.hasPlace = true ∧ r.orderHold = []) ∧
        ¬ (t.kind = 0x61 ∧ r.outbound.any (fun u => u.kind = 0x61) = true) ∧ r.placeNotice t = (r, false)) := by
  unfold PortRec.placeNotice
  by_cases h : r.hasPlace = true ∧ r.orderHold = []
  · exact .inl ⟨h.1, h.2, by simp [h.1, h.2]⟩
  · have h' : (r.hasPlace && r.orderHold.isEmpty) = false := by
      rw [← Bool.not_eq_true]; simpa [Bool.and_eq_true, List.isEmpty_iff] using h
    by_cases hk : t.kind = 0x61 ∧ r.outbound.any (fun u => u.kind = 0x61) = true
    · exact .inr (.inl ⟨h, hk.1, hk.2, by simp only [h', Bool.false_eq_true, if_false]; rw [if_pos hk]⟩)
    · exact .inr (.inr ⟨h, hk, by simp only [h', Bool.false_eq_true, if_false]; rw [if_neg hk]⟩)

/-- Everything that handing an order can do (R8, R16): the tag is the port's, and the counter goes on. -/
theorem Controller.handOrder_cases (c : Controller) (p : PortId) (kind : Octet) (body : List Octet) :
    (c.handOrder p kind body).2 = (c.port p).tagCounter ∧
      let r := { c.port p with tagCounter := (c.port p).tagCounter + 1 }
      (((c.port p).link = .up ∧
          (c.handOrder p kind body).1 = c.setPort p (r.placeOrder ⟨kind, (c.port p).tagCounter, body⟩)) ∨
        ((c.port p).link = .down ∧ (c.handOrder p kind body).1 = c.setPort p r)) := by
  unfold Controller.handOrder
  dsimp only
  split <;> rename_i h <;> simp [h]

/-- Everything that handing a notice can do (R8). -/
theorem Controller.handNotice_cases (c : Controller) (p : PortId) (kind : Octet) (body : List Octet) :
    ((c.port p).link = .up ∧ c.handNotice p kind body =
        (c.setPort p ((c.port p).placeNotice ⟨kind, 0, body⟩).1, ((c.port p).placeNotice ⟨kind, 0, body⟩).2)) ∨
      ((c.port p).link = .down ∧ c.handNotice p kind body = (c, false)) := by
  unfold Controller.handNotice
  dsimp only
  split <;> rename_i h <;> simp [h]

/-- Handing an order changes its port alone. -/
theorem Controller.handOrder_frame (c : Controller) (p : PortId) (kind : Octet) (body : List Octet) :
    ∃ r, (c.handOrder p kind body).1 = c.setPort p r := by
  obtain ⟨-, ⟨-, h⟩ | ⟨-, h⟩⟩ := c.handOrder_cases p kind body <;> exact ⟨_, h⟩

/-- A notice changes its port alone. -/
theorem Controller.notice_frame (c : Controller) (p : PortId) (kind : Octet) (body : List Octet) :
    ∃ r, c.notice p kind body = c.setPort p r := by
  unfold Controller.notice
  rcases c.handNotice_cases p kind body with ⟨-, h⟩ | ⟨-, h⟩
  · exact ⟨_, by rw [h]⟩
  · exact ⟨c.port p, by rw [h, c.setPort_port]⟩

end Sys2Proof.Machine
end

