-- ==== Sys2Proof/Laws/Contexts.lean ====
section
/-! SUPPORT. What the shared operations over contexts and hold causes can do, in the words of Safety: later proofs cite
these and unfold neither. -/

namespace Sys2Proof.Machine

/-! ## Hold causes -/

/-- A cause put into the set, or out of it, reads back. -/
@[simp] theorem HoldCauses.has_put (h : HoldCauses) (k : HoldCause) (v : Bool) : (h.put k v).has k = v := by
  cases k <;> rfl

/-- Every other cause stands as it stood. -/
theorem HoldCauses.has_put_ne (h : HoldCauses) {k j : HoldCause} (v : Bool) (hj : j ≠ k) :
    (h.put k v).has j = h.has j := by
  cases k <;> cases j <;> first | rfl | exact absurd rfl hj

/-- The set is empty exactly where it holds no cause. -/
theorem HoldCauses.isEmpty_iff (h : HoldCauses) : h.isEmpty = true ↔ h = ⟨false, false, false, false⟩ := by
  obtain ⟨a, b, c, d⟩ := h
  cases a <;> cases b <;> cases c <;> cases d <;> simp [HoldCauses.isEmpty]

/-- R128, R131: what the removal of a cause does to a controller: one context is rewritten. -/
theorem Controller.removeCause_eq (c : Controller) (n : Nozzle) (k : HoldCause) :
    c.removeCause n k = c.setCtx n ((c.ctx n).withoutCause k (c.store.settings.ramp.step * 100)) := by
  unfold Controller.removeCause Context.withoutCause
  by_cases hs : (c.ctx n).state = .hold
  · by_cases he : (c.ctx n).causes.put k false = ⟨false, false, false, false⟩
    · simp [hs, he, HoldCauses.isEmpty, RampGroup.stepTime]
    · simp [hs, he, (HoldCauses.isEmpty_iff _).not.2 he]
  · simp [hs]

/-- What the removal of a cause leaves of a context: a fill in HOLD left without one ramps again; else the set alone
changes. -/
theorem Context.withoutCause_cases (x : Context) (k : HoldCause) (step : Nat) :
    (x.state = .hold ∧ x.causes.put k false = ⟨false, false, false, false⟩ ∧ x.withoutCause k step = { x with
      causes := x.causes.put k false, state := .ramping, lagCount := 0, rampTimer := some step
      holdTimer := { x.holdTimer with running := false } }) ∨
    (¬ (x.state = .hold ∧ x.causes.put k false = ⟨false, false, false, false⟩) ∧
      x.withoutCause k step = { x with causes := x.causes.put k false }) := by
  by_cases h : x.state = .hold ∧ x.causes.put k false = ⟨false, false, false, false⟩
  · exact .inl ⟨h.1, h.2, by simp only [Context.withoutCause]; rw [if_pos h]⟩
  · exact .inr ⟨h, by simp only [Context.withoutCause]; rw [if_neg h]⟩

/-- A context that holds no cause, and is not in HOLD, is left as it is. -/
theorem Context.withoutCause_absent (x : Context) (k : HoldCause) (step : Nat) (hs : x.state ≠ .hold)
    (hk : x.causes.put k false = x.causes) : x.withoutCause k step = x := by
  simp [Context.withoutCause, hs, hk]

/-- R115, R131: what the loss of the plant port takes from a context. -/
theorem Context.losePlant_eq (x : Context) : x.losePlant = x.plantLost := rfl

/-! ## The connect -/

@[simp] theorem Context.connect_connected (x : Context) (d : Bool) : (x.connect d).connected = true := rfl

@[simp] theorem Context.connect_vehicleData (x : Context) (d : Bool) : (x.connect d).vehicleData = d := rfl

@[simp] theorem Context.connect_state (x : Context) (d : Bool) : (x.connect d).state = x.state := rfl

@[simp] theorem Context.connect_auth (x : Context) (d : Bool) : (x.connect d).auth = x.auth := rfl

@[simp] theorem Context.connect_causes (x : Context) (d : Bool) : (x.connect d).causes = x.causes := rfl

@[simp] theorem Context.connect_phase (x : Context) (d : Bool) : (x.connect d).phase = x.phase := rfl

/-- R94: without vehicle data the tank temperature and the vehicle flags are absent. -/
@[simp] theorem Context.connect_without_data (x : Context) :
    (x.connect false).tankTemp = none ∧ (x.connect false).flags = none := ⟨rfl, rfl⟩

/-! ## An event taken at once -/

/-- An event taken at once, with nothing waiting, is its own effect and then all that it tells. -/
theorem Controller.took_eq (c : Controller) (e : Event) : c.took e = ({ c with owed := e :: c.owed }).settle := rfl

/-! ## Meter counts -/

/-- A record with no mass to add is the record. -/
@[simp] theorem Record.metering_zero (q : Record) : (q.metering 0).metered = q.metered := by
  unfold Record.metering
  split <;> rfl

/-- R134: a mass is added to the metered mass wherever a segment is open. -/
theorem Record.metering_metered (q : Record) (m : Nat) (h : q.segments ≠ []) :
    (q.metering m).metered = q.metered + m := by
  simp [Record.metering, h]

end Sys2Proof.Machine
end

