-- ==== Sys2Proof/Laws/PerInstr.lean ====
section
/-! SUPPORT. What holds of every command as it is read from a telegram: its telegram is of a kind defined for telegrams
arriving at the FC-8 (section 12.2), and so no answer, order or notice. -/

namespace Sys2Proof.Laws

open Sys2Proof.Machine

/-- The telegram of a telegram command is of an arriving kind. -/
def Reading.Statement (i : Instr) : Prop :=
  ∀ p t, telegramOf i = some (p, t) → (kindInfo t.kind).isSome = true ∧ t.kind.toNat < 0x50

/-- A command that is no telegram. -/
theorem Reading.of_none (i : Instr) (h : telegramOf i = none) : Reading.Statement i := by
  intro p t ht
  rw [h] at ht
  cases ht

/-- A telegram command of a kind that arrives. -/
theorem Reading.of_kind (i : Instr) (q : PortId) (k tag : Octet) (body : List Octet)
    (h : telegramOf i = some (q, ⟨k, tag, body⟩)) (hk : (kindInfo k).isSome = true ∧ k.toNat < 0x50) :
    Reading.Statement i := by
  intro p t ht
  rw [h] at ht
  cases ht
  exact hk

theorem Reading.receiveGapTimeout (p : PortId) : Reading.Statement (.receiveGapTimeout p) :=
  Reading.of_none _ rfl

theorem Reading.telegramArrival (p : PortId) (octets : List Octet) : Reading.Statement (.telegramArrival p octets) :=
  Reading.of_none _ rfl

theorem Reading.linkTimeout (p : PortId) : Reading.Statement (.linkTimeout p) :=
  Reading.of_none _ rfl

theorem Reading.transmissionEnd (p : PortId) : Reading.Statement (.transmissionEnd p) :=
  Reading.of_none _ rfl

theorem Reading.hello (p : PortId) (tag role nozzle : Octet) : Reading.Statement (.hello p tag role nozzle) :=
  Reading.of_kind _ _ _ _ _ rfl (by decide)

theorem Reading.status (p : PortId) (tag : Octet) (part : Option Octet) : Reading.Statement (.status p tag part) :=
  Reading.of_kind _ _ _ _ _ rfl (by decide)

theorem Reading.isolateBank (p : PortId) (tag bank : Octet) : Reading.Statement (.isolateBank p tag bank) :=
  Reading.of_kind _ _ _ _ _ rfl (by decide)

theorem Reading.restoreBank (p : PortId) (tag bank : Octet) : Reading.Statement (.restoreBank p tag bank) :=
  Reading.of_kind _ _ _ _ _ rfl (by decide)

theorem Reading.pauseFills (p : PortId) (tag : Octet) (seconds : BitVec 16) :
    Reading.Statement (.pauseFills p tag seconds) :=
  Reading.of_kind _ _ _ _ _ rfl (by decide)

theorem Reading.clearCompressorFault (p : PortId) (tag : Octet) : Reading.Statement (.clearCompressorFault p tag) :=
  Reading.of_kind _ _ _ _ _ rfl (by decide)

theorem Reading.writeSettings (p : PortId) (tag group : Octet) (entries : List SettingEntry) (rest : List Octet) :
    Reading.Statement (.writeSettings p tag group entries rest) :=
  Reading.of_kind _ _ _ _ _ rfl (by decide)

theorem Reading.settingsHandOver : Reading.Statement .settingsHandOver :=
  Reading.of_none _ rfl

theorem Reading.lockGroup (p : PortId) (tag group : Octet) : Reading.Statement (.lockGroup p tag group) :=
  Reading.of_kind _ _ _ _ _ rfl (by decide)

theorem Reading.unlockGroup (p : PortId) (tag group : Octet) : Reading.Statement (.unlockGroup p tag group) :=
  Reading.of_kind _ _ _ _ _ rfl (by decide)

theorem Reading.setMetrologyLock (p : PortId) (tag : Octet) : Reading.Statement (.setMetrologyLock p tag) :=
  Reading.of_kind _ _ _ _ _ rfl (by decide)

theorem Reading.setClock (p : PortId) (tag : Octet) (value : BitVec 32) : Reading.Statement (.setClock p tag value) :=
  Reading.of_kind _ _ _ _ _ rfl (by decide)

theorem Reading.restart (p : PortId) (tag : Octet) : Reading.Statement (.restart p tag) :=
  Reading.of_kind _ _ _ _ _ rfl (by decide)

theorem Reading.coldStart (p : PortId) (tag : Octet) : Reading.Statement (.coldStart p tag) :=
  Reading.of_kind _ _ _ _ _ rfl (by decide)

theorem Reading.authorise (p : PortId) (tag nozzle : Octet) (moneyLimit : BitVec 32) (massLimit : BitVec 48)
    (customerClass priority : Octet) :
    Reading.Statement (.authorise p tag nozzle moneyLimit massLimit customerClass priority) :=
  Reading.of_kind _ _ _ _ _ rfl (by decide)

theorem Reading.cancel (p : PortId) (tag nozzle : Octet) : Reading.Statement (.cancel p tag nozzle) :=
  Reading.of_kind _ _ _ _ _ rfl (by decide)

theorem Reading.writeTariff (p : PortId) (tag : Octet) (prices : Vector (BitVec 16) 8) (effective : BitVec 32) :
    Reading.Statement (.writeTariff p tag prices effective) :=
  Reading.of_kind _ _ _ _ _ rfl (by decide)

theorem Reading.readRecord (p : PortId) (tag : Octet) (seq : BitVec 32) (part : Option Octet) :
    Reading.Statement (.readRecord p tag seq part) :=
  Reading.of_kind _ _ _ _ _ rfl (by decide)

theorem Reading.acknowledge (p : PortId) (tag : Octet) (seq : BitVec 32) :
    Reading.Statement (.acknowledge p tag seq) :=
  Reading.of_kind _ _ _ _ _ rfl (by decide)

theorem Reading.attachReference (p : PortId) (tag : Octet) (seq : BitVec 32) (reference : List Octet) :
    Reading.Statement (.attachReference p tag seq reference) :=
  Reading.of_kind _ _ _ _ _ rfl (by decide)

theorem Reading.refreshCheck (p : PortId) (tag : Octet) (seq : BitVec 32) :
    Reading.Statement (.refreshCheck p tag seq) :=
  Reading.of_kind _ _ _ _ _ rfl (by decide)

theorem Reading.verifyCheck (p : PortId) (tag : Octet) (seq word : BitVec 32) :
    Reading.Statement (.verifyCheck p tag seq word) :=
  Reading.of_kind _ _ _ _ _ rfl (by decide)

theorem Reading.bankSample (p : PortId) (tag : Octet) (entries : List SampleEntry) (rest : List Octet) :
    Reading.Statement (.bankSample p tag entries rest) :=
  Reading.of_kind _ _ _ _ _ rfl (by decide)

theorem Reading.chillerSample (p : PortId) (tag : Octet) (supply : BitVec 16) (derate : Octet) :
    Reading.Statement (.chillerSample p tag supply derate) :=
  Reading.of_kind _ _ _ _ _ rfl (by decide)

theorem Reading.ambientSample (p : PortId) (tag : Octet) (a1 a2 a3 : BitVec 16) :
    Reading.Statement (.ambientSample p tag a1 a2 a3) :=
  Reading.of_kind _ _ _ _ _ rfl (by decide)

theorem Reading.compressorSample (p : PortId) (tag : Octet) (inlet discharge : BitVec 24) :
    Reading.Statement (.compressorSample p tag inlet discharge) :=
  Reading.of_kind _ _ _ _ _ rfl (by decide)

theorem Reading.nozzleConnect (p : PortId) (tag vehicleClass dataPresent : Octet) :
    Reading.Statement (.nozzleConnect p tag vehicleClass dataPresent) :=
  Reading.of_kind _ _ _ _ _ rfl (by decide)

theorem Reading.nozzleHang (p : PortId) (tag : Octet) : Reading.Statement (.nozzleHang p tag) :=
  Reading.of_kind _ _ _ _ _ rfl (by decide)

theorem Reading.stopPress (p : PortId) (tag : Octet) : Reading.Statement (.stopPress p tag) :=
  Reading.of_kind _ _ _ _ _ rfl (by decide)

theorem Reading.fieldSample (p : PortId) (tag : Octet) (pressure : BitVec 24) (gas tank : BitVec 16)
    (flags : Octet) (count : BitVec 16) :
    Reading.Statement (.fieldSample p tag pressure gas tank flags count) :=
  Reading.of_kind _ _ _ _ _ rfl (by decide)

theorem Reading.valveConfirm (p : PortId) (tag bank generation state : Octet) :
    Reading.Statement (.valveConfirm p tag bank generation state) :=
  Reading.of_kind _ _ _ _ _ rfl (by decide)

theorem Reading.runConfirm (p : PortId) (tag state : Octet) : Reading.Statement (.runConfirm p tag state) :=
  Reading.of_kind _ _ _ _ _ rfl (by decide)

theorem Reading.flowConfirm (p : PortId) (tag generation state : Octet) :
    Reading.Statement (.flowConfirm p tag generation state) :=
  Reading.of_kind _ _ _ _ _ rfl (by decide)

theorem Reading.ventDone (p : PortId) (tag : Octet) (count : BitVec 16) : Reading.Statement (.ventDone p tag count) :=
  Reading.of_kind _ _ _ _ _ rfl (by decide)

theorem Reading.powerUp : Reading.Statement .powerUp :=
  Reading.of_none _ rfl

theorem Reading.resetAssert : Reading.Statement .resetAssert :=
  Reading.of_none _ rfl

theorem Reading.resetRelease : Reading.Statement .resetRelease :=
  Reading.of_none _ rfl

theorem Reading.clockSecond : Reading.Statement .clockSecond :=
  Reading.of_none _ rfl

theorem Reading.valveOpenTimeout (b : BankId) : Reading.Statement (.valveOpenTimeout b) :=
  Reading.of_none _ rfl

theorem Reading.valveCloseTimeout (b : BankId) : Reading.Statement (.valveCloseTimeout b) :=
  Reading.of_none _ rfl

theorem Reading.runStartTimeout : Reading.Statement .runStartTimeout :=
  Reading.of_none _ rfl

theorem Reading.runStopTimeout : Reading.Statement .runStopTimeout :=
  Reading.of_none _ rfl

theorem Reading.stallWindowExpiry : Reading.Statement .stallWindowExpiry :=
  Reading.of_none _ rfl

theorem Reading.backoffExpiry : Reading.Statement .backoffExpiry :=
  Reading.of_none _ rfl

theorem Reading.ambientHoldExpiry : Reading.Statement .ambientHoldExpiry :=
  Reading.of_none _ rfl

theorem Reading.connectWaitExpiry (n : Nozzle) : Reading.Statement (.connectWaitExpiry n) :=
  Reading.of_none _ rfl

theorem Reading.resourceWaitExpiry (n : Nozzle) : Reading.Statement (.resourceWaitExpiry n) :=
  Reading.of_none _ rfl

theorem Reading.pulseDelayExpiry (n : Nozzle) : Reading.Statement (.pulseDelayExpiry n) :=
  Reading.of_none _ rfl

theorem Reading.pulseWidthExpiry (n : Nozzle) : Reading.Statement (.pulseWidthExpiry n) :=
  Reading.of_none _ rfl

theorem Reading.sensitivePartEnd (n : Nozzle) : Reading.Statement (.sensitivePartEnd n) :=
  Reading.of_none _ rfl

theorem Reading.settleWindowEnd (n : Nozzle) : Reading.Statement (.settleWindowEnd n) :=
  Reading.of_none _ rfl

theorem Reading.flowOrderTimeout (n : Nozzle) : Reading.Statement (.flowOrderTimeout n) :=
  Reading.of_none _ rfl

theorem Reading.ventTimeout (n : Nozzle) : Reading.Statement (.ventTimeout n) :=
  Reading.of_none _ rfl

theorem Reading.progressTimerExpiry (n : Nozzle) : Reading.Statement (.progressTimerExpiry n) :=
  Reading.of_none _ rfl

theorem Reading.rampStepExpiry (n : Nozzle) : Reading.Statement (.rampStepExpiry n) :=
  Reading.of_none _ rfl

theorem Reading.holdPeriodExpiry (n : Nozzle) : Reading.Statement (.holdPeriodExpiry n) :=
  Reading.of_none _ rfl

theorem Reading.pauseTimerExpiry : Reading.Statement .pauseTimerExpiry :=
  Reading.of_none _ rfl

theorem Reading.stopThresholdReached (n : Nozzle) : Reading.Statement (.stopThresholdReached n) :=
  Reading.of_none _ rfl

theorem Reading.meterFaultReport (n : Nozzle) : Reading.Statement (.meterFaultReport n) :=
  Reading.of_none _ rfl

theorem Reading.pacingTimerExpiry : Reading.Statement .pacingTimerExpiry :=
  Reading.of_none _ rfl

theorem Reading.octetArrival (p : PortId) (octet : Octet) : Reading.Statement (.octetArrival p octet) :=
  Reading.of_none _ rfl

theorem Reading.coreSupplyLoss (disturbed : Bool) : Reading.Statement (.coreSupplyLoss disturbed) :=
  Reading.of_none _ rfl

theorem Reading.retainedDomainSupplyLoss : Reading.Statement .retainedDomainSupplyLoss :=
  Reading.of_none _ rfl

end Sys2Proof.Laws
end

