-- ==== Sys2Proof/Laws/Steps.lean ====
section
/-! SUPPORT. The running of a step: with nothing waiting a step is its own operation; a request at the head of its queue
is carried out and answered; a report at the head is handed to its owner. -/

namespace Sys2Proof.Machine

/-! ## Taking the events that wait -/

/-- With no event waiting, nothing is taken. -/
theorem Controller.runOwed_nil (k : Nat) (c : Controller) (h : c.owed = []) : c.runOwed k = c := by
  cases k with
  | zero => rfl
  | succ k => simp [Controller.runOwed, h]

/-- The first event that waits is taken, what it tells put before the rest. -/
theorem Controller.runOwed_cons (k : Nat) (c : Controller) (e : Event) (l : List Event) (h : c.owed = e :: l) :
    c.runOwed (k + 1) = (({ c with owed := l }).handle e).owe.runOwed k := by
  simp [Controller.runOwed, h]

theorem Controller.settle_nil (c : Controller) (h : c.owed = []) : c.settle = c := c.runOwed_nil _ h

/-- Whatever holds, and is kept by every event taken, holds after all events are taken. -/
theorem Controller.runOwed_induct (P : Controller → Prop)
    (step : ∀ (c : Controller) (e : Event) (l : List Event), P c → c.owed = e :: l →
      P (({ c with owed := l }).handle e).owe) :
    ∀ (k : Nat) (c : Controller), P c → P (c.runOwed k)
  | 0, _, h => h
  | k + 1, c, h => by
    unfold Controller.runOwed
    cases ho : c.owed with
    | nil => exact h
    | cons e l => exact Controller.runOwed_induct P step k _ (step c e l h ho)

@[simp] theorem Eff.owe_of (c : Controller) : (Eff.of c).owe = c := rfl

theorem Eff.owe_nil (e : Eff) (h : e.events = []) : e.owe = e.ctl := by
  obtain ⟨c, l⟩ := e
  cases h
  rfl

@[simp] theorem Eff.owe_owed (e : Eff) : e.owe.owed = e.events ++ e.ctl.owed := rfl

/-! ## A step -/

/-- A controller that does not run does nothing (R27, R29). -/
theorem Controller.perform_stopped (c : Controller) (f : Controller → Eff) (h : c.running = false) :
    c.perform f = c := by
  simp [Controller.perform, h]

/-- A step with nothing waiting that tells nothing is its own operation, and then the lines. -/
theorem Controller.perform_quiet (c : Controller) (f : Controller → Eff) (hr : c.running = true) (ho : c.owed = [])
    (he : (f c).events = []) (hf : (f c).ctl.owed = []) : c.perform f = (f c).ctl.settleLines := by
  simp [Controller.perform, hr, c.settle_nil ho, Eff.owe_nil _ he, Controller.settle_nil _ hf]

/-- A step with nothing waiting whose events wait for a later step. -/
theorem Controller.performLater_quiet (c : Controller) (f : Controller → Eff) (hr : c.running = true)
    (ho : c.owed = []) : c.performLater f = (f c).owe.settleLines := by
  simp [Controller.performLater, hr, c.settle_nil ho]

/-- A step of the running controller keeps whatever its operation, every event and the lines keep. -/
theorem Controller.perform_induct (P : Controller → Prop) (f : Controller → Eff)
    (taken : ∀ (c : Controller) (e : Event) (l : List Event), P c → c.owed = e :: l →
      P (({ c with owed := l }).handle e).owe)
    (own : ∀ c, P c → P (f c).owe) (lines : ∀ c, P c → P c.settleLines) (c : Controller) (h : P c) :
    P (c.perform f) := by
  unfold Controller.perform
  split
  · exact lines _ (Controller.runOwed_induct P taken _ _ (own _ (Controller.runOwed_induct P taken _ _ h)))
  · exact h

@[simp] theorem State.withCtl_ctl (s : State) (c : Controller) : (s.withCtl c).ctl = c := rfl

@[simp] theorem State.withCtl_pending (s : State) (c : Controller) : (s.withCtl c).pending = s.pending := rfl

@[simp] theorem State.withCtl_self (s : State) : s.withCtl s.ctl = s := rfl

/-- A step of the running controller at rest that changes nothing answers the state it found. -/
theorem State.does_nothing (s : State) (f : Controller → Eff) (h : s.ctl.atRest) (hf : f s.ctl = .of s.ctl) :
    s.does f = .next s := by
  have hp := s.ctl.perform_quiet f h.1 h.2.1 (by simp [hf]) (by simp [hf, h.2.1])
  simp [State.does, hp, hf, Controller.settleLines_of_served _ h.2.2.1]

/-! ## Requests and reports at the head of their queue (R10, R11) -/

/-- A telegram at the head of its queue is not received anew. -/
theorem Controller.toHead_of_head (c : Controller) (p : PortId) (t : Telegram) (rest : List Telegram)
    (h : (c.port p).inbound = t :: rest) : c.toHead p t = c := by
  simp [Controller.toHead, Controller.atHead, h]

/-- A request at the head that may be answered is carried out and answered. -/
theorem Controller.serveRequest_asked (c : Controller) (p : PortId) (t : Telegram) (rest : List Telegram)
    (carry : Controller → Carried) (ht : t.permitted = true) (h : c.asked p t rest) :
    c.serveRequest p t carry = c.answerHead p t carry := by
  obtain ⟨h1, h2, h3, h4⟩ := h
  simp [Controller.serveRequest, ht, c.toHead_of_head p t rest h1, Controller.atHead, h1, Controller.mayAnswer, h2, h3,
    h4]

/-- A report or confirmation at the head is handed to its owner. -/
theorem Controller.serveReport_told (c : Controller) (p : PortId) (t : Telegram) (rest : List Telegram)
    (act : Controller → Eff) (ht : t.permitted = true) (h : c.told p t rest) :
    c.serveReport p t act = c.takeHeadReport p t act := by
  simp [Controller.serveReport, ht, c.toHead_of_head p t rest h, Controller.atHead, h]

/-- A telegram that enters the queue of a served port with no order held: what its line then does is `sends`. -/
theorem PortRec.pump_enqueue (r : PortRec) (t : Telegram) (hl : r.line = none → r.outbound = [])
    (hh : r.orderHold = []) : ({ r with outbound := enqueue t r.outbound } : PortRec).pump = r.sends t := by
  cases h : r.line with
  | none =>
    have hq := hl h
    simp [PortRec.pump, PortRec.sends, h, hq, hh, enqueue]
  | some u => simp [PortRec.pump, PortRec.sends, h]

/-- The lines of a controller of which one port alone is not yet served. -/
theorem Controller.settleLines_setPort (c : Controller) (p : PortId) (r : PortRec) (h : c.linesServed) :
    (c.setPort p r).settleLines = c.setPort p r.pump := by
  have : (Vector.ofFn fun q => (c.ports.set p r)[q].pump) = c.ports.set p r.pump := by
    ext i hi
    simp only [Vector.getElem_ofFn, Fin.getElem_fin, Vector.getElem_set]
    split
    · rfl
    · exact PortRec.pump_eq_self _ (h ⟨i, hi⟩)
  simp only [Controller.settleLines, Controller.setPort, this]

/-- R10, R12: a request at the head of its queue whose carrying out leaves the controller `e` but for its port's queues,
tells nothing, and is answered with a result and a body. -/
theorem Controller.perform_request (c e : Controller) (p : PortId) (t : Telegram) (rest : List Telegram)
    (carry : Controller → Carried) (result : Result) (body : List Octet) (hc : c.atRest) (ha : c.asked p t rest)
    (ht : t.permitted = true) (hrole : roleMaySend (roleOf p) t.kind = true) (hp : e.ports = c.ports)
    (ho : e.owed = [])
    (hcarry : carry (c.setPort p { c.port p with inbound := rest, answerPlace := true }) =
      ⟨.of (e.setPort p { e.port p with inbound := rest, answerPlace := true }), result, body⟩) :
    c.perform (fun d => d.serveRequest p t carry) = e.answered p rest (answerTo t result body) := by
  obtain ⟨hr, howed, hl, hplace⟩ := hc
  have hport : ∀ q, e.port q = c.port q := fun q => by simp [Controller.port, hp]
  have hserved : e.linesServed := fun q => by rw [hport]; exact hl q
  have hd : c.updPort p (fun r => { r.takeHead with answerPlace := true }) =
      c.setPort p { c.port p with inbound := rest, answerPlace := true } := by
    simp [Controller.updPort, PortRec.takeHead, ha.1]
  have hs : c.serveRequest p t carry = .of (e.setPort p
      { e.port p with inbound := rest, outbound := enqueue (answerTo t result body) (e.port p).outbound }) := by
    have hlen : (e.port p).outbound.length < 12 := by rw [hport]; exact ha.2.1
    have hfree : (e.port p).answerPlace = false := by rw [hport]; exact hplace p
    rw [c.serveRequest_asked p t rest carry ht ha]
    unfold Controller.answerHead
    rw [hd]
    simp only [hrole, if_true]
    rw [hcarry]
    simp only [Eff.change, Eff.of, Controller.updPort, Controller.port_setPort_self, Controller.setPort_setPort,
      PortRec.placeAnswer, hlen, if_true]
    rw [← hfree]
  rw [c.perform_quiet _ hr howed (by rw [hs]; rfl) (by rw [hs]; exact ho), hs]
  simp only [Eff.of_ctl]
  rw [Controller.settleLines_setPort _ _ _ hserved]
  have hline : (e.port p).line = none → (e.port p).outbound = [] := hserved p
  have hhold : (e.port p).orderHold = [] := by rw [hport]; exact ha.2.2.1
  have := PortRec.pump_enqueue { e.port p with inbound := rest } (answerTo t result body) hline hhold
  simp only at this
  rw [this]
  simp [Controller.answered, Controller.taken, Controller.sends]

/-- R10, R11: a report at the head of its queue whose owner leaves the controller `e` but for its port's queue, and
tells nothing. -/
theorem Controller.perform_report (c e : Controller) (p : PortId) (t : Telegram) (rest : List Telegram)
    (act : Controller → Eff) (hc : c.atRest) (ha : c.told p t rest) (ht : t.permitted = true)
    (hrole : roleMaySend (roleOf p) t.kind = true) (hp : e.ports = c.ports) (ho : e.owed = [])
    (hact : act (c.taken p rest) = .of (e.taken p rest)) :
    c.perform (fun d => d.serveReport p t act) = e.taken p rest := by
  obtain ⟨hr, howed, hl, hplace⟩ := hc
  have hport : ∀ q, e.port q = c.port q := fun q => by simp [Controller.port, hp]
  have hd : c.updPort p PortRec.takeHead = c.taken p rest := by
    simp [Controller.updPort, PortRec.takeHead, Controller.taken, show (c.port p).inbound = t :: rest from ha]
  have hs : c.serveReport p t act = .of (e.taken p rest) := by
    rw [c.serveReport_told p t rest act ht ha]
    simp [Controller.takeHeadReport, hd, hrole, hact]
  have hserved : (e.taken p rest).linesServed := by
    intro q
    by_cases hq : q = p
    · subst hq; simpa [Controller.taken, hport] using hl q
    · simpa [Controller.taken, Controller.port_setPort_ne _ _ hq, hport] using hl q
  rw [c.perform_quiet _ hr howed (by rw [hs]; rfl) (by rw [hs]; exact ho), hs]
  exact Controller.settleLines_of_served _ hserved

end Sys2Proof.Machine
end

