-- ==== Sys2Proof/Laws/Tables.lean ====
section
/-! SUPPORT. What a write of bank entries can do: at once to the bank table, and at its hand-over to the Scheduler. Later
proofs cite these and unfold neither. -/

namespace Sys2Proof.Machine

/-! ## The bank table of a write (R32) -/

/-- An entry that is none of the bank table's changes nothing at once. -/
theorem Controller.recordWrite_other (c : Controller) (k : SettingKey) (h : k.ofTable = false) :
    c.recordWrite k = c := by
  cases k <;> first | rfl | cases h

/-- All that a written entry can do at once: the bank count in force and the bank records change, and nothing else. -/
theorem Controller.recordWrite_frame (c : Controller) (k : SettingKey) :
    c.recordWrite k = { c with alloc := { c.alloc with
      bankCount := (c.recordWrite k).alloc.bankCount, banks := (c.recordWrite k).alloc.banks } } := by
  cases k <;> rfl

/-- The same of all the entries of a write. -/
theorem Controller.recordWrites_frame (l : List SettingKey) : ∀ c : Controller, ∃ count banks,
    l.foldl Controller.recordWrite c = { c with alloc := { c.alloc with bankCount := count, banks := banks } } := by
  induction l with
  | nil => exact fun c => ⟨c.alloc.bankCount, c.alloc.banks, rfl⟩
  | cons k l ih =>
    intro c
    obtain ⟨count, banks, h⟩ := ih (c.recordWrite k)
    exact ⟨count, banks, by rw [List.foldl_cons, h, c.recordWrite_frame k]⟩

/-- No written entry changes a bank's generation. -/
@[simp] theorem Controller.recordWrite_generation (c : Controller) (k : SettingKey) (b : BankId) :
    ((c.recordWrite k).bank b).generation = (c.bank b).generation := by
  cases k with
  | bankTier d =>
    by_cases h : d = b
    · subst h
      simp [Controller.recordWrite, Controller.updBank, Controller.setBank, Controller.bank]
    · have hv : d.val ≠ b.val := fun e => h (Fin.ext e)
      simp [Controller.recordWrite, Controller.updBank, Controller.setBank, Controller.bank, hv]
  | bankCount =>
    simp only [Controller.recordWrite, Controller.bank, Fin.getElem_fin, Vector.getElem_ofFn]
    split <;> rfl
  | _ => rfl

/-! ## Their hand-over to the Scheduler (R67) -/

/-- R66: a bank joins behind the banks of its own tier and of higher ones, and before those of lower tiers. -/
theorem joinQueue_eq (tierOf : BankId → Tier) (b : BankId) (q : List BankId) :
    joinQueue tierOf b q = q.takeWhile (fun u => (tierOf b).rank ≤ (tierOf u).rank) ++
      b :: q.dropWhile fun u => (tierOf b).rank ≤ (tierOf u).rank := by
  induction q with
  | nil => rfl
  | cons u q ih =>
    by_cases h : (tierOf b).rank ≤ (tierOf u).rank
    · simp [joinQueue, h, Nat.not_lt.2 h, ih]
    · simp [joinQueue, h, Nat.lt_of_not_le h]

/-- All that the hand-over of bank entries can do by itself: the Scheduler changes, a claim may be withdrawn, and a start
attempt may follow. -/
theorem Controller.takeBanks_frame (c : Controller) (moved : List BankId) :
    (c.takeBanks moved).ctl = { c with
      sched := (c.takeBanks moved).ctl.sched
      alloc := { c.alloc with compressorClaim := (c.takeBanks moved).ctl.alloc.compressorClaim } } ∧
    ((c.takeBanks moved).events = [] ∨ (c.takeBanks moved).events = [.startAttempt]) := by
  unfold Controller.takeBanks Controller.withdrawClaim Controller.updSched
  dsimp only
  split
  · split <;> exact ⟨rfl, .inr rfl⟩
  · refine ⟨rfl, ?_⟩
    dsimp only
    split
    · exact .inr rfl
    · exact .inl rfl

/-- A claim that still waits after it names a bank that did not leave, and waited before. -/
theorem Controller.takeBanks_claim (c : Controller) (moved : List BankId) :
    (c.takeBanks moved).ctl.sched.claimPending = none ∨
      (c.takeBanks moved).ctl.sched.claimPending = c.sched.claimPending := by
  unfold Controller.takeBanks Controller.withdrawClaim Controller.updSched
  dsimp only
  split
  · split
    · exact .inl rfl
    · exact .inr rfl
  · exact .inr rfl

end Sys2Proof.Machine
end

