-- ==== Sys2Proof/Tests/Slice0.lean ====
section
/-! SUPPORT. The model's own tests. First the ill-formed commands each check of `Instr.wellFormed` refuses; then values
worked by hand from the manual's tables and examples, and single steps; then, for each statement with hypotheses, a
concrete state and operands that meet them together, at the boundary values of each clause. -/

-- The theorems below are each one kernel evaluation: taken one after the other, they need one thread's memory.
set_option Elab.async false

namespace Sys2Proof.Tests

open Sys2Proof Sys2Proof.Machine

/-! ## Well-formedness -/

theorem test_empty_arrival_refused : Instr.wellFormed (.telegramArrival 0 []) = false := by decide

theorem test_long_arrival_refused : Instr.wellFormed (.telegramArrival 0 (List.replicate 127 0)) = false := by
  decide +kernel

theorem test_settings_without_entry_refused : Instr.wellFormed (.writeSettings 0 1 1 [] [0]) = false := by decide

theorem test_settings_with_whole_entry_left_refused :
    Instr.wellFormed (.writeSettings 0 1 1 [⟨0, 0⟩] (List.replicate 6 0)) = false := by decide

theorem test_long_settings_refused :
    Instr.wellFormed (.writeSettings 0 1 1 (List.replicate 19 ⟨0, 0⟩) [0]) = false := by decide

theorem test_long_reference_refused :
    Instr.wellFormed (.attachReference 1 1 1 (List.replicate 17 0)) = false := by decide

theorem test_sample_without_entry_refused : Instr.wellFormed (.bankSample 0 1 [] [0]) = false := by decide

theorem test_sample_with_whole_entry_left_refused :
    Instr.wellFormed (.bankSample 0 1 [⟨1, 0, 0⟩] (List.replicate 6 0)) = false := by decide

theorem test_long_sample_refused :
    Instr.wellFormed (.bankSample 0 1 (List.replicate 12 ⟨1, 0, 0⟩) [0]) = false := by decide

theorem test_longest_settings_well_formed :
    Instr.wellFormed (.writeSettings 0 1 1 (List.replicate 19 ⟨0, 0⟩) []) = true := by decide

/-! ## The states the tests start from -/

/-- A port that is UP with nothing queued. -/
def upPort : PortRec := { restPort .inService with link := .up, linkTimer := some 3000 }

/-- The state after reset with every port UP and the clock set. -/
def station : Controller :=
  { coldController with
    ports := Vector.replicate 8 upPort, store := { coldStore with clock := 1000, clockSet := true } }

/-- A controller with a telegram at the head of a port's inbound queue. -/
def holding (c : Controller) (p : PortId) (t : Telegram) : State :=
  ⟨[], c.setPort p { c.port p with inbound := [t] }⟩

/-- A controller with no command waiting. -/
def alone (c : Controller) : State := ⟨[], c⟩

/-- A controller with one bank record changed. -/
def withBank (c : Controller) (b : BankId) (r : BankRec) : Controller := c.setBank b r

/-- A fill's authorisation: 10.00 of money at 5.00 a kilogram, record 1. -/
def paid : Authorisation := ⟨1000, none, 0, 1, 500, 1⟩

/-- The fill's OPEN record, with one segment of 1,000 cg. -/
def opened : Record :=
  { newRecord 1 0 .lp paid 900 with
    flowStart := some 950, band := some 3, segments := [⟨0, .low, some 40000, none, 1000⟩], metered := 1000 }

/-- The fill's limits. -/
def limited : FillLimits := fillLimits 1000 none 500 5000000 150

/-- The context of an LP fill in RAMPING on bank 1, flow OPEN. -/
def ramping : Context :=
  { restContext .lp with
    state := .ramping, connected := true, auth := some paid, join := some 1, bankRequestMade := true, band := some 3
    entry := some ⟨150, 43000, .t40, 18⟩, target := some 20000000, measured := 20000, gasTemp := some 100
    currentBank := some ⟨0, .low, 1⟩, lastBank := some ⟨0, .low, 1⟩, flow := .opened, wanted := .opened
    progressTimer := some 1000, rampTimer := some 500 }

/-- The station with a fill at nozzle 1, its context given, DRAWING on bank 1. -/
def fill (x : Context) : Controller :=
  { station with
    contexts := station.contexts.set 0 x
    alloc := { station.alloc with
      banks := station.alloc.banks.set 0
        { restBank .low 1 with state := .drawing, holder := some (.nozzle 0), pressure := some 40000 }
      reservations := station.alloc.reservations.set 0 18 }
    thermal := { station.thermal with supply := some (-400), precoolClass := .t40 }
    meters := station.meters.set 0 { restMeter with reference := some 10, metering := true, limits := some limited }
    ring := { coldRing with records := [opened], nextSeq := 2, nextSlot := 1 } }

/-- The context of a fill in LEAK_CHECK in a phase. -/
def checking (phase : LeakPhase) : Context :=
  { ramping with
    state := .leakCheck, phase := some phase, entry := none, target := none, rampTimer := none, flow := .closed
    wanted := .closed, leakTimer := some 500, reference := 20000 }

/-- The station with the compressor in a state, holding bank 9. -/
def refilling (k : CompressorState) : Controller :=
  { station with
    sched := { restScheduler with
      state := k, refillBank := some 8, heldBank := some ⟨8, false⟩, runConfirmed := true, valveOpen := true
      stallCount := 7, stallWindow := some ⟨30000, some 60000⟩, inlet := some 5000, discharge := some 60000 }
    alloc := { station.alloc with
      banks := station.alloc.banks.set 8 { restBank .high 1 with state := .refilling, holder := some .compressor }
      compressorReservation := 30, compressorHeld := true } }

/-- Whether a step answers a next state. -/
def goesOn (o : Host.Outcome State Fault Refusal) : Bool :=
  match o with
  | .next _ => true
  | _ => false

/-- The next state a step answers. -/
def after (o : Host.Outcome State Fault Refusal) : State :=
  match o with
  | .next t => t
  | _ => State.reset

theorem next_after (o : Host.Outcome State Fault Refusal) (h : goesOn o = true) : o = .next (after o) := by
  cases o with
  | next s => rfl
  | fault _ => cases h
  | refused _ => cases h

/-! ## Values worked by hand -/

/-- R160, R159: the two CRCs of the octets "123456789", the check values these generators are published with. -/
theorem test_crcs :
    crc16 [0x31, 0x32, 0x33, 0x34, 0x35, 0x36, 0x37, 0x38, 0x39] = 0x29B1 ∧
      crc32 [0x31, 0x32, 0x33, 0x34, 0x35, 0x36, 0x37, 0x38, 0x39] = 0xFC891918 := by decide +kernel

/-- Section 12.2: telegrams written out from the body tables, and their commands: plant, till and dispenser. -/
theorem test_plant_telegrams :
    commandOf 0 ⟨0x40, 7, [4, 0x11, 1]⟩ = some (.valveConfirm 0 7 4 0x11 1) ∧
      commandOf 0 ⟨0x30, 1, [2, 0x01, 0x86, 0xA0, 0x00, 0xC8]⟩ = some (.bankSample 0 1 [⟨2, 100000, 200⟩] []) ∧
      commandOf 0 ⟨0x14, 9, [2, 0x02, 0x90, 0, 0, 0, 5, 0xAA]⟩ =
        some (.writeSettings 0 9 2 [⟨0x0290, 5⟩] [0xAA]) := by decide +kernel

theorem test_till_telegrams :
    commandOf 1 ⟨0x20, 3, [5, 0, 0, 0x13, 0x88, 0, 0, 0, 0, 0, 0, 2, 1]⟩ = some (.authorise 1 3 5 5000 0 2 1) ∧
      commandOf 1 ⟨0x23, 3, [0, 0, 1, 0, 1]⟩ = some (.readRecord 1 3 256 (some 1)) ∧
      commandOf 1 ⟨0x23, 3, [0, 0, 1]⟩ = none := by decide +kernel

theorem test_dispenser_telegrams :
    commandOf 4 ⟨0x3B, 8, [0x00, 0x4E, 0x20, 0xFF, 0xF6, 0x80, 0x00, 0x03, 0x12, 0x34]⟩ =
        some (.fieldSample 4 8 20000 0xFFF6 0x8000 3 0x1234) ∧
      commandOf 4 ⟨0x42, 8, [17, 2]⟩ = some (.flowConfirm 4 8 17 2) := by decide +kernel

/-- Section 12.1: the frame of a HELLO: start octet, length 2, kind 01h, tag, body, and the CRC-16 of what lies between. -/
theorem test_frame_is_received :
    (Telegram.frame ⟨0x01, 5, [1, 0]⟩).take 6 = [0x7E, 2, 0x01, 5, 1, 0] ∧
      validTelegram (Telegram.frame ⟨0x01, 5, [1, 0]⟩) = some ⟨0x01, 5, [1, 0]⟩ := by decide +kernel

/-- Section 6.7: the samples of the worked example, floors toward minus infinity. -/
theorem test_ambient_example :
    reduceAmbient .weighted (some 385) (some 392) (some 371) = some 383 ∧
      reduceAmbient .weighted (some 402) none (some 388) = some 395 ∧
      reduceAmbient .weighted (some 409) (some 404) (some 398) = some 405 ∧
      reduceAmbient .primary (some 396) none none = some 396 ∧
      reduceAmbient .equal (some (-10)) (some (-11)) (some (-11)) = some (-11) ∧
      reduceAmbient .weighted (some (-153)) (some (-160)) (some (-148)) = some (-154) := by decide +kernel

/-- Section 6.7: the bands of those values with the default edges. -/
theorem test_ambient_bands :
    let e := defaultSettings.ambient.edges
    bandOf e 383 = 6 ∧ bandOf e 405 = 7 ∧ bandOf e (-11) = 2 ∧ bandOf e (-154) = 1 := by decide +kernel

/-- Section 9.8: the fill limits of the money-limit example. -/
theorem test_money_limit_example :
    fillLimits 5000 none 1350 800000 150 = ⟨370407, 370407, .money, 150, 370557⟩ ∧
      chargeOf 370407 1350 = 5000 ∧ chargeOf 370408 1350 = 5001 ∧ chargeOf 370190 1350 = 4998 := by decide +kernel

/-- Section 6.8, R82: the precool classes of the worked example and the edges. -/
theorem test_chiller_example :
    classOfSupply (-362) = .t40 ∧ classOfSupply (-330) = .t40 ∧ classOfSupply (-324) = .t30 ∧
      classOfSupply (-260) = .t30 ∧ classOfSupply (-175) = .t20 ∧ classOfSupply (-174) = .noClass := by decide +kernel

/-- R149: the number after the greatest is 1. -/
theorem test_sequence_wraps : succSeq 4294967295 = 1 ∧ forwardDistance 4294967295 1 = 1 := by decide +kernel

/-- Section 8.8: a step of the ramp arithmetic, 300 kPa/s over 500 ms, clamped at P_end. -/
theorem test_ramp_example :
    let x := { ramping with entry := some ⟨300, 70000, .t40, 22⟩, target := some 12340000, measured := 12340 }
    let y := { x with target := some 69940000, measured := 69900 }
    let after := fun z : Context => match exec (.rampStepExpiry 0) (alone (fill z)) with
      | .next t => (t.ctl.ctx 0).target
      | _ => none
    after x = some 12490000 ∧ after y = some 70000000 := by decide +kernel

/-- Section 9.7: a count that rolls over past 65,535 is metered as 120 pulses; a jump of 30,918 is rebased. -/
theorem test_metering_example :
    let m : Meter := { restMeter with
      reference := some 65500, metering := true, limits := some ⟨9000000, 9000000, .money, 150, 9000150⟩ }
    let c := { fill ramping with meters := station.meters.set 0 m }
    let counted := fun v : BitVec 16 => match exec (.fieldSample 2 1 20000 100 0x8000 0 v)
        (holding c 2 ⟨0x3B, 1, octets 3 20000 ++ octets 2 100 ++ [0x80, 0, 0] ++ octets 2 v.toNat⟩) with
      | .next t => t.ctl.ring.records.map fun r => (r.metered, r.rebased)
      | _ => []
    counted 84 = [(13000, false)] ∧ counted 31002 = [(1000, true)] := by decide +kernel

/-- Section 10.7: an ACKNOWLEDGE frees the CLOSED records before the first OPEN one. -/
theorem test_acknowledge_example :
    let r := fun (seq : Nat) (closed : Bool) => { opened with seq := seq, closed := closed }
    let c := { station with ring := { coldRing with
      records := [r 201 true, r 202 true, r 203 false, r 204 true, r 205 true, r 206 false], nextSeq := 207 } }
    (match exec (.acknowledge 1 4 205) (holding c 1 ⟨0x24, 4, octets 4 205⟩) with
      | .next t => (t.ctl.ring.records.map Record.seq, t.ctl.ring.pacing, (t.ctl.port 1).line, (t.ctl.port 1).outbound)
      | _ => ([], none, none, [])) =
      ([203, 204, 205, 206], some 1000, some ⟨0xA4, 4, [0, 0, 0, 0, 203, 4]⟩,
        [⟨0x63, 0, [0, 0, 0, 203, 0, 0, 0, 205]⟩]) := by decide +kernel

/-- Section 4.7: the banks chosen for the three entries of the worked example, as the scan reaches them. -/
theorem test_scan_example :
    let idle := fun (t : Tier) (p : Nat) => { restBank t 1 with pressure := some p }
    let busy := fun t : Tier => { restBank t 1 with state := .isolated }
    let c := { station with alloc := { station.alloc with banks := #v[idle .low 38000, idle .low 44000, busy .low,
      idle .mid 61000, busy .mid, busy .mid, idle .high 88000, busy .high, busy .high, busy .low, busy .mid,
      busy .high] } }
    c.chooseBank ⟨2, 1, 50, .lp, .low, 26000⟩ = some 1 ∧ c.chooseBank ⟨5, 0, 48, .hp, .mid, 52000⟩ = some 3 ∧
      (withBank (withBank c 1 (busy .low)) 3 (busy .mid)).chooseBank ⟨4, 0, 52, .hp, .low, 41000⟩ = some 6 := by decide +kernel

/-- R14: an idle line takes the order before the answer and the notice that wait. -/
theorem test_priorities :
    let q := enqueue ⟨0x50, 1, []⟩ (enqueue ⟨0x90, 2, [0]⟩ (enqueue ⟨0x60, 0, []⟩ []))
    q.map Telegram.kind = [0x50, 0x90, 0x60] := by decide +kernel

/-- R78: the answer of a CLEAR_COMPRESSOR_FAULT shows the state its start attempt leaves, STARTING (03h). -/
theorem test_cleared_fault_answers_starting :
    let c := { station with sched := { restScheduler with state := .faulted, stallCount := 8, queue := [8] } }
    let sent := match exec (.clearCompressorFault 0 9) (holding c 0 ⟨0x13, 9, []⟩) with
      | .next t => (t.ctl.port 0).outbound ++ (t.ctl.port 0).line.toList
      | _ => []
    sent.filter (fun u : Telegram => u.kind == 0x93) = [⟨0x93, 9, [0, 3, 0]⟩] := by decide +kernel

/-- R24, R144: a PENDING tariff becomes ACTIVE at a second counted on the retained supply alone. -/
theorem test_tariff_is_due_without_core_supply :
    let c := { station with corePowered := false, pendingTariff := some ⟨Vector.replicate 8 500, 1001⟩ }
    (match exec .clockSecond (alone c) with
      | .next t => (t.ctl.store.clock, t.ctl.active, t.ctl.pendingTariff)
      | _ => (0, c.active, c.pendingTariff)) = (1001, Vector.replicate 8 500, none) := by decide +kernel

/-- R94: a connect without vehicle data leaves no earlier vehicle's tank temperature or flags. -/
theorem test_connect_drops_earlier_data :
    let c := { station with contexts := station.contexts.set 0 { restContext .lp with
      vehicleData := true, tankTemp := some 300, flags := some ⟨true, false⟩ } }
    (match exec (.nozzleConnect 2 1 1 0) (holding c 2 ⟨0x38, 1, [1, 0]⟩) with
      | .next t => ((t.ctl.ctx 0).state, (t.ctl.ctx 0).tankTemp, (t.ctl.ctx 0).flags)
      | _ => (.idle, some 300, none)) = (.connected, none, none) := by decide +kernel

/-- R115, R131: the loss of the plant port takes PLANT_PAUSE from a fill that is ending. -/
theorem test_plant_loss_ends_the_pause_of_every_fill :
    let x := { ramping with state := .hold, causes := { noCauses with plantPause := true }, rampTimer := none }
    (match exec (.linkTimeout plantPort) (alone { fill x with pauseTimer := some 5000 }) with
      | .next t => ((t.ctl.ctx 0).state, (t.ctl.ctx 0).endReason, (t.ctl.ctx 0).causes, t.ctl.pauseTimer)
      | _ => (.idle, none, noCauses, some 0)) = (.ending, some .plantLink, noCauses, none) := by decide +kernel

/-! ## Witnesses: the step, the invariants and the whole machine -/

theorem witness_stopped_controller_does_nothing :
    (alone { station with corePowered := false }).ctl.running = false ∧
      (alone { station with resetAsserted := true }).ctl.running = false ∧ Instr.pauseTimerExpiry ≠ .powerUp ∧
      Instr.pauseTimerExpiry ≠ .resetAssert ∧ Instr.pauseTimerExpiry ≠ .resetRelease ∧
      Instr.pauseTimerExpiry ≠ .clockSecond ∧ Instr.pauseTimerExpiry ≠ .coreSupplyLoss true ∧
      Instr.pauseTimerExpiry ≠ .coreSupplyLoss false ∧ Instr.pauseTimerExpiry ≠ .retainedDomainSupplyLoss := by
  decide +kernel

/-- A fill in RAMPING whose ramp step is due: every invariant holds of it, and its step answers a next state. -/
def busy : State := ⟨[.rampStepExpiry 0], { fill ramping with stationTotal := 0 }⟩

theorem witness_step_keeps_queues :
    busy.ctl.queuesFit ∧ (busy.ctl.running = true → busy.ctl.linesServed) ∧
      ∃ t, step busy = .next t ∧ t.ctl.running = true :=
  ⟨by decide +kernel, by decide +kernel, _, next_after _ (by decide +kernel), by decide +kernel⟩

/-- A port whose queues are as full as they may be. -/
theorem witness_step_keeps_queues_full :
    PortRec.queuesFit { upPort with
      inbound := List.replicate 8 ⟨0x02, 1, []⟩, line := some ⟨0x60, 0, []⟩
      outbound := List.replicate 12 ⟨0x50, 1, []⟩, orderHold := [⟨0x50, 2, []⟩] } := by decide +kernel

theorem witness_step_keeps_reservations : busy.ctl.reservationsFit ∧ ∃ t, step busy = .next t :=
  ⟨by decide +kernel, _, next_after _ (by decide +kernel)⟩

theorem witness_step_keeps_holders : busy.ctl.holdersAgree ∧ ∃ t, step busy = .next t :=
  ⟨by decide +kernel, _, next_after _ (by decide +kernel)⟩

theorem witness_step_keeps_records_whole : busy.ctl.recordsWhole ∧ ∃ t, step busy = .next t :=
  ⟨by decide +kernel, _, next_after _ (by decide +kernel)⟩

theorem witness_step_keeps_the_window : busy.ctl.ring.isWindow ∧ ∃ t, step busy = .next t :=
  ⟨by decide +kernel, _, next_after _ (by decide +kernel)⟩

theorem witness_step_keeps_totals : busy.ctl.totalsAgree ∧ ∃ t, step busy = .next t :=
  ⟨by decide +kernel, _, next_after _ (by decide +kernel)⟩

theorem witness_step_keeps_contexts : busy.ctl.contextsAgree ∧ busy.ctl.targetsFit ∧ ∃ t, step busy = .next t :=
  ⟨by decide +kernel, by decide +kernel, _, next_after _ (by decide +kernel)⟩

/-- A controller without supplies whose retained memory is lost, its metrology lock set. -/
def lapsed : State :=
  alone { station with
    corePowered := false, retainedPowered := false, store := { station.store with metrologyLock := true, marker := false } }

theorem witness_metrology_lock_falls_at_power_up_alone :
    (busy.ctl.lockGuards ∧ ∃ t, step busy = .next t) ∧
      lapsed.ctl.lockGuards ∧ lapsed.ctl.store.metrologyLock = true ∧
      ∃ t, exec .powerUp lapsed = .next t ∧ t.ctl.store.metrologyLock = false :=
  ⟨⟨by decide +kernel, _, next_after _ (by decide +kernel)⟩, by decide +kernel, by decide +kernel, _, next_after _ (by decide +kernel), by decide +kernel⟩

theorem witness_settings_change :
    ∃ t, exec (.writeSettings 0 9 2 [⟨0x0290, 7⟩] [])
        (holding station 0 ⟨0x14, 9, [2, 0x02, 0x90, 0, 0, 0, 7]⟩) = .next t ∧
      t.ctl.store.settings ≠ station.store.settings :=
  ⟨_, next_after _ (by decide +kernel), by decide +kernel⟩

theorem witness_clock_changes :
    (∃ t, exec .clockSecond (alone station) = .next t ∧ t.ctl.store.clock ≠ station.store.clock) ∧
      ∃ t, exec (.setClock 0 9 77) (holding station 0 ⟨0x18, 9, [0, 0, 0, 77]⟩) = .next t ∧
        t.ctl.store.clock ≠ station.store.clock :=
  ⟨⟨_, next_after _ (by decide +kernel), by decide +kernel⟩, _, next_after _ (by decide +kernel), by decide +kernel⟩

theorem witness_records_leave_at_acknowledge_alone :
    ∃ t, exec .clockSecond (alone (fill ramping)) = .next t ∧ opened ∈ (alone (fill ramping)).ctl.ring.records ∧
      t.ctl.ring ≠ coldRing :=
  ⟨_, next_after _ (by decide +kernel), by decide +kernel, by decide +kernel⟩

/-! ## Witnesses: encodings and arithmetic -/

theorem witness_telegrams_and_commands_agree :
    Instr.wellFormed (.writeSettings 0 9 2 (List.replicate 19 ⟨0x0290, 5⟩) []) = true ∧
      (telegramOf (.writeSettings 0 9 2 (List.replicate 19 ⟨0x0290, 5⟩) [])).isSome = true ∧
      commandOf 7 ⟨0x3A, 255, []⟩ = some (.stopPress 7 255) := by decide +kernel

/-- At the greatest values the entries of each form admit, a P_end above its class maximum among them. -/
theorem witness_written_setting_is_carried_back :
    SettingKey.bankCount.admits 11 = true ∧ (SettingKey.rampEnd 0).admits 120000 = true ∧
      (SettingKey.rampEnd 47).admits 120000 = true ∧ (SettingKey.rampRate 47).admits 0 = true ∧
      (SettingKey.bandEdge 0).admits 0xFFFFFE0C = true ∧ (SettingKey.kFactor 5).admits 1 = true := by decide +kernel

theorem witness_sequence_numbers :
    (1 ≤ 4294967295 ∧ 4294967295 ≤ 4294967295 ∧ 4294967294 < 4294967295) ∧
      ({ coldRing with records := [{ opened with seq := 4294967295 }], nextSeq := 1 } : Ring).oldest = 4294967295 ∧
      ({ coldRing with records := [{ opened with seq := 4294967295 }], nextSeq := 1 } : Ring).nextSeq = 1 ∧
      ({ coldRing with records := [{ opened with seq := 4294967295 }], nextSeq := 1 } : Ring).isHeld 1 = false := by
  decide +kernel

/-- A queue of 12 with two notices, a FILL_PROGRESS the older. -/
def crowded : List Telegram := List.replicate 10 ⟨0x50, 1, []⟩ ++ [⟨0x61, 0, []⟩, ⟨0x60, 0, []⟩]

theorem witness_outbound_telegrams_are_placed :
    (crowded.map Telegram.priority).Pairwise (· ≥ ·) ∧
      (let r := { upPort with outbound := crowded.take 11 }
       r.answerPlace = false ∧ r.outbound.length ≤ 12 ∧ r.outbound.length < 12 ∧ r.orderHold = []) ∧
      (let r := { upPort with outbound := List.replicate 12 ⟨0x50, 1, []⟩, orderHold := [⟨0x52, 1, []⟩] }
       r.answerPlace = false ∧ r.outbound.length ≤ 12 ∧ r.orderHold ≠ [] ∧ (⟨0x60, 0, []⟩ : Telegram).kind ≠ 0x61) ∧
      (let r := { upPort with outbound := crowded }
       r.answerPlace = false ∧ r.orderHold = [] ∧ r.outbound = crowded.take 11 ++ [⟨0x60, 0, []⟩] ∧
         (crowded.take 11).length = 11 ∧ r.outbound.length = 12 ∧
         r.outbound = crowded.take 10 ++ ⟨0x61, 0, []⟩ :: [⟨0x60, 0, []⟩] ∧ ∀ x ∈ crowded.take 10, x.kind ≠ 0x61) := by
  decide +kernel

/-! ## Witnesses: storage -/

theorem witness_scan_takes_the_best_bank :
    let c := withBank station 8 { restBank .high 1 with pressure := some 80000 }
    c.chooseBank ⟨3, 0, 1, .hp, .low, 80000⟩ = some 8 ∧ c.chooseBank ⟨0, 0, 1, .lp, .low, 80000⟩ = none := by
  decide +kernel

theorem witness_bank_release :
    (fill ramping).room plantPort ∧ ((fill ramping).port plantPort).answerPlace = false ∧
      ((fill ramping).bank 0).holder = some (.nozzle 0) ∧ ((fill ramping).bank 0).order = none ∧
      ((fill ramping).bank 0).releasePending = false := by decide +kernel

/-! ## Witnesses: links -/

theorem witness_octet_arrives :
    (alone station).ctl.atRest ∧ ((alone station).ctl.port 7).incomplete = true ∧
      PortRec.incomplete { upPort with assembly := [0x7E] } = true ∧
      PortRec.incomplete { upPort with assembly := [0x7E, 0, 2, 1] } = true ∧
      PortRec.incomplete { upPort with assembly := [0x7E, 0, 2, 1, 5] } = false := by decide +kernel

theorem witness_telegram_arrives :
    (alone station).ctl.atRest ∧ ((alone station).ctl.port 7).assembly = [] ∧
      Telegram.permitted ⟨0x14, 1, List.replicate 115 0⟩ = true ∧ ((alone station).ctl.port 7).queuesFit ∧
      (State.reset.ctl.port 7).link = .down ∧ State.reset.ctl.atRest := by decide +kernel

/-- A HELLO one octet too long, and a HELLO with a wrong CRC. -/
theorem witness_telegram_is_discarded :
    (alone station).ctl.atRest ∧ ((alone station).ctl.port 0).assembly = [] ∧
      Telegram.permitted ⟨0x01, 1, [1, 0, 0]⟩ = false ∧
      ([0, 0] : List Octet) ≠ octets 2 (crc16 [2, 0x01, 1, 1, 0]).toNat := by decide +kernel

theorem witness_command_brings_its_telegram :
    (alone station).ctl.atRest ∧ telegramOf (.ventDone 7 3 9) = some (7, ⟨0x43, 3, octets 2 9⟩) ∧
      Telegram.permitted ⟨0x43, 3, octets 2 9⟩ = true ∧ (station.port 7).link = .up ∧
      (station.port 7).inbound = [] := by decide +kernel

theorem witness_links_are_lost :
    ((alone station).ctl.atRest ∧ (1 : PortId) ≠ plantPort ∧ (7 : PortId) ≠ plantPort ∧
        (∀ n, nozzleOfPort 7 = some n → (station.ctx n).state = .idle) ∧ (station.port 7).linkTimer.isSome = true) ∧
      (station.port plantPort).linkTimer.isSome = true ∧ station.pendingStart = none ∧
      ∀ n, (station.ctx n).state = .idle ∧ (station.ctx n).releaseOutstanding = false := by decide +kernel

/-- Of a dispenser: each state its nozzle may be in. Of the plant: no fill, and a fill in each state. -/
theorem witness_links_are_lost_with_fills :
    (([.connected, .complete] : List NozzleState).all fun k =>
      let s := alone { station with contexts := station.contexts.set 0 { ramping with state := k } }
      decide (s.ctl.atRest ∧ (s.ctl.port (portOfNozzle 0)).linkTimer.isSome = true ∧ (s.ctl.ctx 0).state = k ∧
        ∀ m, (s.ctl.ctx m).state = .idle ∨ (s.ctl.ctx m).state = .connected ∨ (s.ctl.ctx m).state = .complete)) = true ∧
      (([.authorised, .waitResources, .leakCheck, .ramping, .hold, .ending] : List NozzleState).all fun k =>
        let s := alone { fill { ramping with state := k } with pauseTimer := some 0 }
        decide (s.ctl.calm ∧ s.ctl.hasFill 0 paid opened limited ∧ (s.ctl.ctx 0).state = k ∧
          (s.ctl.port (portOfNozzle 0)).linkTimer.isSome = true ∧
          (s.ctl.port plantPort).linkTimer.isSome = true ∧ s.ctl.pendingStart = none ∧
          (∀ b : BankId, s.ctl.alloc.bankCount ≤ b.val → (s.ctl.bank b).nextHolder = none) ∧
          s.ctl.room plantPort ∧ s.ctl.roomFor (portOfNozzle 0) 1 ∧ s.ctl.roomFor tillPort 2 ∧
          ∀ m, m ≠ 0 → (s.ctl.ctx m).state = .idle)) = true := by decide +kernel

/-- A plant port whose line is busy with a telegram, another waiting. -/
def sending (t : Telegram) : Controller :=
  { station with
    pendingStart := some .warm
    ports := station.ports.set 0 { upPort with line := some t, outbound := [⟨0x60, 0, []⟩] } }

theorem witness_transmission_ends :
    let s := alone { sending ⟨0x50, 1, []⟩ with pendingStart := none }
    s.ctl.atRest ∧ (s.ctl.pendingStart = none ∨ plantPort ≠ plantPort) ∧ (s.ctl.port 0).line ≠ none := by
  decide +kernel

theorem witness_hello_is_answered :
    let s := holding station 7 ⟨0x01, 255, [3, 6]⟩
    s.ctl.atRest ∧ s.ctl.asked 7 ⟨0x01, 255, [3, 6]⟩ [] ∧ (7 : PortId) ≠ tillPort := by decide +kernel

/-- The till port goes UP with a notice owed and no CLOSED record held, and with one held while the pacing timer runs. -/
theorem witness_hello_judges_the_notice :
    let owed := fun (l : List Record) (t : Timer) => holding { station with
      ports := station.ports.set 1 (restPort .inService)
      ring := { coldRing with records := l, noticeOwed := l.isEmpty, pacing := t } } tillPort ⟨0x01, 1, [2, 0]⟩
    (([owed [] none, owed [{ opened with closed := true }] (some 0)] : List State).all fun s =>
      decide (s.ctl.atRest ∧ s.ctl.asked tillPort ⟨0x01, 1, [2, 0]⟩ [] ∧ (s.ctl.port tillPort).link = .down ∧
        (s.ctl.port tillPort).service = .inService ∧
        (s.ctl.ring.holdsClosed = true → s.ctl.ring.pacing.isSome = true))) = true := by decide +kernel

theorem witness_hello_brings_the_notice :
    let c := { station with
      ports := station.ports.set 1 (restPort .inService), ring := { coldRing with records := [{ opened with closed := true }] } }
    let s := holding c tillPort ⟨0x01, 1, [2, 0]⟩
    s.ctl.atRest ∧ s.ctl.asked tillPort ⟨0x01, 1, [2, 0]⟩ [] ∧ (s.ctl.port tillPort).outbound.length < 11 ∧
      (s.ctl.port tillPort).service = .inService ∧ (s.ctl.port tillPort).link = .down ∧
      s.ctl.ring.holdsClosed = true ∧ s.ctl.ring.pacing = none := by decide +kernel

theorem witness_status_is_gathered :
    let s := holding station 7 ⟨0x02, 1, [1]⟩
    let u := holding station 0 ⟨0x02, 1, []⟩
    (s.ctl.atRest ∧ s.ctl.asked 7 ⟨0x02, 1, partField (some 1)⟩ []) ∧ u.ctl.atRest ∧
      u.ctl.asked 0 ⟨0x02, 1, partField none⟩ [] := by decide +kernel

theorem witness_role_filter :
    (let s := holding station 1 ⟨0x13, 1, []⟩
     s.ctl.atRest ∧ telegramOf (.clearCompressorFault 1 1) = some (1, ⟨0x13, 1, []⟩) ∧
       Telegram.permitted ⟨0x13, 1, []⟩ = true ∧ roleMaySend (roleOf 1) 0x13 = false ∧
       Telegram.isRequest ⟨0x13, 1, []⟩ = true ∧ s.ctl.asked 1 ⟨0x13, 1, []⟩ []) ∧
      (let s := holding station 0 ⟨0x3A, 1, []⟩
       s.ctl.atRest ∧ telegramOf (.stopPress 0 1) = some (0, ⟨0x3A, 1, []⟩) ∧
         roleMaySend (roleOf 0) 0x3A = false ∧ Telegram.isRequest ⟨0x3A, 1, []⟩ = false ∧
         s.ctl.told 0 ⟨0x3A, 1, []⟩ []) := by decide +kernel

theorem witness_cancel_refused :
    (([0, 7, 255] : List Octet).all fun k => decide (
        (holding station tillPort ⟨0x21, 1, [k]⟩).ctl.atRest ∧
        (holding station tillPort ⟨0x21, 1, [k]⟩).ctl.asked tillPort ⟨0x21, 1, [k]⟩ [] ∧
        (k.toNat = 0 ∨ 6 < k.toNat))) = true ∧
      (([1, 6] : List Octet).all fun k => decide (
        (holding station tillPort ⟨0x21, 1, [k]⟩).ctl.asked tillPort ⟨0x21, 1, [k]⟩ [] ∧
        (holding station 2 ⟨0x21, 1, [k]⟩).ctl.asked 2 ⟨0x21, 1, [k]⟩ [] ∧ (2 : PortId) ≠ tillPort ∧
        ∃ n : Nozzle, k.toNat = n.val + 1 ∧ (station.ctx n).state = .idle)) = true := by decide +kernel

/-! ## Witnesses: settings, locks, clock, starts and supplies -/

theorem witness_settings_are_written :
    let l : List SettingEntry := [⟨0x0301, 255⟩, ⟨0x0300, 100⟩, ⟨0x0301, 1⟩]
    let s := holding station 0 ⟨0x14, 9, (3 : Octet) :: l.flatMap SettingEntry.field ++ [7]⟩
    s.ctl.atRest ∧ s.ctl.asked 0 ⟨0x14, 9, (3 : Octet) :: l.flatMap SettingEntry.field ++ [7]⟩ [] ∧
      Instr.wellFormed (.writeSettings 0 9 3 l [7]) = true ∧ groupOf 3 = some .precool ∧
      s.ctl.testWrite 3 l = .ok := by decide +kernel

/-- Two tiers and the bank count: banks 10 to 12 are no more, and bank 9 goes with them. -/
theorem witness_bank_entries_are_written :
    let l : List SettingEntry := [⟨0x0101, 2⟩, ⟨0x0100, 7⟩, ⟨0x0102, 1⟩]
    let s := holding station 0 ⟨0x14, 9, (1 : Octet) :: l.flatMap SettingEntry.field ++ []⟩
    s.ctl.atRest ∧ s.ctl.asked 0 ⟨0x14, 9, (1 : Octet) :: l.flatMap SettingEntry.field ++ []⟩ [] ∧
      Instr.wellFormed (.writeSettings 0 9 1 l []) = true ∧ groupOf 1 = some .banks ∧
      s.ctl.testWrite 1 l = .ok := by decide +kernel

/-- A request of one entry, as the refusals' clauses take it. -/
def asksToWrite (c : Controller) (code : Octet) (e : SettingEntry) : Prop :=
  let t : Telegram := ⟨0x14, 9, code :: [e].flatMap SettingEntry.field⟩
  (holding c 0 t).ctl.atRest ∧ (holding c 0 t).ctl.asked 0 ⟨0x14, 9, code :: [e].flatMap SettingEntry.field ++ []⟩ [] ∧
    Instr.wellFormed (.writeSettings 0 9 code [e] []) = true

theorem witness_settings_are_refused_argument :
    (asksToWrite station 0 ⟨0, 0⟩ ∧ groupOf 0 = none) ∧ (asksToWrite station 8 ⟨0, 0⟩ ∧ groupOf 8 = none) ∧
      (asksToWrite station 6 ⟨0x0600, 0⟩ ∧ groupOf 6 = some .tariffAccess) := by
  unfold asksToWrite
  decide +kernel

/-- A bank count out of range, band edges that do not rise, and vent corrections that fall. -/
theorem witness_settings_are_refused_values :
    (asksToWrite station 1 ⟨0x0100, 12⟩ ∧ groupOf 1 = some .banks ∧ station.store.locks.of .banks = false ∧
        [⟨0x0100, 12⟩].all (entryAdmitted .banks (station.store.settings.writeAll .banks [⟨0x0100, 12⟩])) = false) ∧
      (asksToWrite station 4 ⟨0x0401, 0⟩ ∧ groupOf 4 = some .ambient ∧ station.store.locks.of .ambient = false ∧
        strictlyRising (station.store.settings.writeAll .ambient [⟨0x0401, 0⟩]).ambient.edges.toList = false) ∧
      (asksToWrite station 5 ⟨0x0510, 0xFFFF⟩ ∧ groupOf 5 = some .meter ∧ station.store.locks.of .meter = false ∧
        station.store.metrologyLock = false ∧ neverFalling
          ((station.store.settings.writeAll .meter [⟨0x0510, 0xFFFF⟩]).meter.vent[(0 : Nozzle)]).toList = false) := by
  unfold asksToWrite
  decide +kernel

theorem witness_settings_are_refused_locked :
    let locked := { station with store := { station.store with locks := { clearLocks with ramp := true } } }
    let sealed := { station with store := { station.store with metrologyLock := true } }
    (asksToWrite locked 2 ⟨0x0290, 5⟩ ∧ locked.store.locks.of .ramp = true) ∧
      (asksToWrite sealed 5 ⟨0x0500, 100⟩ ∧ sealed.store.metrologyLock = true) := by
  unfold asksToWrite
  decide +kernel

/-- A bank taken out of the table while a fill draws on it. -/
theorem witness_settings_are_refused_state :
    let c := withBank station 8 { restBank .high 1 with state := .drawing, holder := some (.nozzle 5) }
    asksToWrite c 1 ⟨0x0100, 7⟩ ∧ lastOccurrences [⟨0x0100, 7⟩] = [⟨0x0100, 7⟩] ∧
      [⟨0x0100, 7⟩].all (entryAdmitted .banks (c.store.settings.writeAll .banks [⟨0x0100, 7⟩])) = true ∧
      (c.store.settings.writeAll .banks [⟨0x0100, 7⟩]).consistent = true ∧
      ∃ k ∈ keysOf .banks [⟨0x0100, 7⟩], c.stateRefuses (c.store.settings.writeAll .banks [⟨0x0100, 7⟩]) k = true := by
  unfold asksToWrite
  decide +kernel

theorem witness_settings_are_handed_over :
    let s := alone { station with owed := [.handOver .nominalCapacity] }
    { s.ctl with owed := [] }.calm ∧ s.ctl.owed = [.handOver .nominalCapacity] ∧
      s.ctl.alloc.sum ≤ s.ctl.store.settings.precool.nominal - s.ctl.alloc.derate ∧
      { (alone station).ctl with owed := [] }.calm ∧ (alone station).ctl.owed = [] := by decide +kernel

/-- A controller with one hand-over waiting. -/
def owing (c : Controller) (k : SettingKey) : State := alone { c with owed := [.handOver k] }

/-- What holds of a controller once its hand-over is taken from the list: it is at rest, and with no claim. -/
def readyFor (s : State) : Prop :=
  { s.ctl with owed := [] }.atRest ∧ s.ctl.alloc.compressorClaim = none ∧ s.ctl.roomFor plantPort 2

/-- Two entries that fit beside 12 in use of 100, and one that does not by 1: fills in LEAK_CHECK and HOLD are granted. -/
theorem witness_capacity_is_handed_over :
    let x := { ramping with state := .hold, causes := { noCauses with derateShed := true } }
    let l : List PrecoolClaim := [⟨0, 2, 1, 18⟩, ⟨1, 1, 2, 70⟩]
    let m : List PrecoolClaim := [⟨5, 0, 3, 1⟩]
    let c := { station with
      contexts := (station.contexts.set 0 (checking .settle)).set 1 x
      alloc := { station.alloc with precoolList := l ++ m, reservations := #v[0, 0, 12, 0, 0, 0] } }
    let s := owing c .nominalCapacity
    readyFor s ∧ s.ctl.alloc.precoolList = l ++ m ∧ (l.map PrecoolClaim.nozzle).Nodup ∧
      (∀ e ∈ l, s.ctl.reservation e.nozzle = 0 ∧ s.ctl.parkedOf e.nozzle = none ∧
        ((s.ctl.ctx e.nozzle).state = .leakCheck ∨ (s.ctl.ctx e.nozzle).state = .ramping ∨
          (s.ctl.ctx e.nozzle).state = .hold)) ∧
      s.ctl.alloc.sum + (l.map PrecoolClaim.amount).sum ≤ s.ctl.store.settings.precool.nominal - s.ctl.alloc.derate ∧
      ∀ e ∈ m.head?, s.ctl.store.settings.precool.nominal - s.ctl.alloc.derate <
        s.ctl.alloc.sum + (l.map PrecoolClaim.amount).sum + e.amount := by
  unfold readyFor
  decide +kernel

/-- A parked request placed: of a nozzle that waits for resources, and of one in a switch of banks; a bank of exactly
the pressure asked for, and none. -/
theorem witness_parked_request_is_placed :
    let k : BankClaim := ⟨0, 1, 1, .lp, .low, 22000⟩
    let waits := { restContext .lp with state := .waitResources, auth := some paid, bankRequestMade := true }
    let holds := { ramping with
      state := .hold, causes := ⟨true, false, false, true⟩, currentBank := none, flow := .closed, wanted := .closed }
    let with' := fun (x : Context) (p : Nat) => owing { station with
      contexts := station.contexts.set 0 x
      alloc := { station.alloc with
        banks := station.alloc.banks.set 0 { restBank .low 1 with pressure := some p }
        precoolList := [⟨0, 1, 1, 100⟩], parked := station.alloc.parked.set 0 (some k) } } .nominalCapacity
    (([with' waits 22000, with' holds 22000, with' holds 21999] : List State).all fun s =>
      decide ({ s.ctl with owed := [] }.atRest ∧ s.ctl.alloc.compressorClaim = none ∧ s.ctl.roomFor plantPort 1 ∧
        s.ctl.alloc.precoolList = [⟨0, 1, 1, 100⟩] ∧ s.ctl.reservation 0 = 0 ∧ s.ctl.parkedOf 0 = some k ∧
        s.ctl.alloc.bankList = [] ∧ (s.ctl.ctx 0).currentBank = none ∧
        s.ctl.alloc.sum + 100 ≤ s.ctl.store.settings.precool.nominal - s.ctl.alloc.derate ∧
        ((s.ctl.ctx 0).state = .waitResources ∧ (s.ctl.ctx 0).bankRequestMade = true ∨
          (s.ctl.ctx 0).state = .hold ∧ (s.ctl.ctx 0).causes.bankSwitch = true))) = true ∧
      (with' waits 22000).ctl.chooseBank k = some 0 ∧ (with' holds 21999).ctl.chooseBank k = none := by
  decide +kernel

/-- The station with a service flag of its settings written. -/
def written (c : Controller) (g : Settings → Settings) : Controller :=
  { c with store := { c.store with settings := g c.store.settings } }

/-- The station, with a Scheduler's state, a refill queue and a bank count in force, its bank entries to be handed over. -/
def retabled (k : CompressorState) (queue : List BankId) (count : Nat) (moved : List BankId) : State :=
  alone { station with
    owed := [.banksHandedOver moved], sched := { restScheduler with state := k, queue := queue }
    alloc := { station.alloc with bankCount := count } }

/-- Nothing moved, a removed bank moved, a bank not queued, and the last configured bank; STOPPED and STARVED. -/
theorem witness_banks_are_handed_over :
    (([retabled .stopped [0, 8] 8 [], retabled .stopped [0, 8] 8 [8], retabled .stopped [8] 9 [0],
        retabled .starved [8, 0] 9 [8, 0]] : List State).all fun s =>
      decide ({ s.ctl with owed := [] }.atRest ∧ s.ctl.roomFor plantPort 2 ∧ s.ctl.sched.claimPending = none)) = true ∧
      (let s := retabled .stopped [8, 0] 9 [0, 8]
       { s.ctl with owed := [] }.atRest ∧ { s.ctl with owed := [] }.mayAttempt ∧ (8 : BankId) ∈ s.ctl.sched.queue ∧
         (8 : BankId).val < s.ctl.alloc.bankCount) := by decide +kernel

/-- A claim for bank 9 that waits, while bank 9 is removed, while it moves, and while bank 1 does. -/
theorem witness_claimed_bank_is_handed_over :
    let waits := fun (count : Nat) (moved : List BankId) =>
      let s := retabled .waitCooling [8, 0] count moved
      alone { s.ctl with
        alloc := { s.ctl.alloc with
          compressorClaim := some 8, reservations := #v[80, 0, 0, 0, 0, 0], precoolList := [⟨1, 0, 1, 21⟩] }
        sched := { s.ctl.sched with claimPending := some 8, refillBank := some 8 } }
    (([waits 8 [], waits 9 [8], waits 9 [0]] : List State).all fun s =>
      decide ({ s.ctl with owed := [] }.atRest ∧ s.ctl.roomFor plantPort 2 ∧ s.ctl.sched.claimPending = some 8 ∧
        s.ctl.sched.state ≠ .stopped ∧ s.ctl.alloc.compressorHeld = false ∧
        ∀ e ∈ s.ctl.alloc.precoolList.head?, s.ctl.alloc.free < e.amount)) = true := by decide +kernel

/-- R32: a write of bank 1's tier and a count of 8 changes the table at once; R67: at its hand-over bank 9 has left the
queue and stays IDLE, and the start attempt takes bank 1. -/
theorem test_write_never_starts_a_removed_bank :
    let c := { station with sched := { restScheduler with queue := [8, 0] } }
    let l : List SettingEntry := [⟨0x0101, 2⟩, ⟨0x0100, 7⟩]
    let s := after (exec (.writeSettings 0 9 1 l [])
      (holding c 0 ⟨0x14, 9, (1 : Octet) :: l.flatMap SettingEntry.field ++ []⟩))
    let t := after (exec .settingsHandOver s)
    (s.ctl.alloc.bankCount, (s.ctl.bank 0).tier, s.ctl.sched.queue) = (8, .mid, [8, 0]) ∧
      (t.ctl.sched.state, t.ctl.sched.queue, t.ctl.sched.refillBank) = (.starting, [0], some 0) ∧
      (t.ctl.bank 8).state = .idle := by decide +kernel

theorem witness_service_flags_are_handed_over :
    let flagged := fun (f : ServiceFlag) (l : LinkState) (k : NozzleState) => owing (written
      { station with
        ports := station.ports.set 7 { upPort with link := l }
        contexts := station.contexts.set 5 { restContext .hp with state := k } } fun g =>
        { g with links := { g.links with service := g.links.service.set 5 f } }) (.serviceFlag 5)
    (([flagged .inService .down .idle, flagged .unused .down .idle, flagged .unused .up .idle,
        flagged .unused .up .connected, flagged .unused .up .complete] : List State).all fun s =>
      decide ({ s.ctl with owed := [] }.atRest)) = true ∧
      (flagged .inService .down .idle).ctl.store.settings.links.service[(5 : Nozzle)] = .inService ∧
      (flagged .unused .up .complete).ctl.store.settings.links.service[(5 : Nozzle)] = .unused := by decide +kernel

theorem witness_locks_are_written :
    (([0, 1, 6, 7, 8, 255] : List Octet).all fun k => decide ((holding station 0 ⟨0x15, 1, [k]⟩).ctl.atRest ∧
        (holding station 0 ⟨0x15, 1, [k]⟩).ctl.asked 0 ⟨0x15, 1, [k]⟩ [] ∧
        (holding station 0 ⟨0x16, 1, [k]⟩).ctl.asked 0 ⟨0x16, 1, [k]⟩ [])) = true ∧
      (holding station 0 ⟨0x17, 1, []⟩).ctl.asked 0 ⟨0x17, 1, []⟩ [] := by decide +kernel

theorem witness_clock_is_set :
    (([0, 0xFFFFFFFF] : List (BitVec 32)).all fun v =>
      decide ((holding station 0 ⟨0x18, 1, octets 4 v.toNat⟩).ctl.atRest ∧
        (holding station 0 ⟨0x18, 1, octets 4 v.toNat⟩).ctl.asked 0 ⟨0x18, 1, octets 4 v.toNat⟩ [])) = true := by
  decide +kernel

/-- The last second of the clock's range, and a tariff due at the second, on the retained supply alone. -/
theorem witness_clock_advances :
    let w : PendingTariff := ⟨Vector.replicate 8 1, 1001⟩
    let c := { station with corePowered := false, pendingTariff := some w }
    (c.corePowered ∨ c.retainedPowered) ∧ c.store.clock.toNat + 1 = w.effective.toNat ∧
      (0xFFFFFFFF : BitVec 32).toNat + 1 = 4294967296 := by decide +kernel

theorem witness_starts_are_pending :
    (holding station 0 ⟨0x19, 1, []⟩).ctl.atRest ∧ (holding station 0 ⟨0x19, 1, []⟩).ctl.asked 0 ⟨0x19, 1, []⟩ [] ∧
      (holding (fill ramping) 0 ⟨0x1A, 1, []⟩).ctl.atRest ∧
      (holding (fill ramping) 0 ⟨0x1A, 1, []⟩).ctl.asked 0 ⟨0x1A, 1, []⟩ [] ∧
      (∃ r ∈ (fill ramping).ring.records, r.closed = false) ∧
      (holding station 0 ⟨0x1A, 1, []⟩).ctl.asked 0 ⟨0x1A, 1, []⟩ [] := by decide +kernel

theorem witness_starts_are_taken :
    (∀ t ∈ ([⟨0x99, 1, [0]⟩, ⟨0x9A, 1, [5]⟩] : List Telegram), ∀ k ∈ ([.warm, .cold] : List StartKind),
      let c := { sending t with pendingStart := some k }
      c.atRest ∧ c.pendingStart = some k ∧ c.totalsFit ∧ (c.port plantPort).line = some t ∧
        (c.port plantPort).linkTimer.isSome = true) := by decide +kernel

theorem witness_warm_restart :
    let s := alone { fill ramping with resetAsserted := true }
    s.ctl.resetAsserted = true ∧ s.ctl.corePowered = true ∧ s.ctl.totalsFit := by decide +kernel

theorem witness_supplies_rise_and_fall :
    (alone (fill ramping)).ctl.resetAsserted = false ∧ (alone (fill ramping)).ctl.corePowered = true ∧
      (alone (fill ramping)).ctl.totalsFit := by decide +kernel

/-! ## Witnesses: banks -/

/-- The bank numbers at the ends of the ranges: none, the last configured, the first beyond the count, beyond 12. -/
theorem witness_bank_is_isolated_or_restored :
    (([0, 10, 13, 255] : List Octet).all fun k => decide ((holding station 0 ⟨0x10, 1, [k]⟩).ctl.atRest ∧
        (holding station 0 ⟨0x10, 1, [k]⟩).ctl.asked 0 ⟨0x10, 1, [k]⟩ [] ∧
        (holding station 0 ⟨0x11, 1, [k]⟩).ctl.asked 0 ⟨0x11, 1, [k]⟩ [] ∧
        (k.toNat = 0 ∨ station.alloc.bankCount < k.toNat ∨ 12 < k.toNat))) = true ∧
      (let c := withBank station 8 { restBank .high 1 with state := .isolated }
       let s := holding c 0 ⟨0x10, 1, [9]⟩
       s.ctl.asked 0 ⟨0x10, 1, [9]⟩ [] ∧ (holding c 0 ⟨0x11, 1, [9]⟩).ctl.asked 0 ⟨0x11, 1, [9]⟩ [] ∧
         (9 : Octet).toNat = (8 : BankId).val + 1 ∧ (8 : BankId).val < s.ctl.alloc.bankCount ∧
         (s.ctl.bank 8).state = .isolated ∧ s.ctl.alloc.bankList = []) := by decide +kernel

theorem witness_idle_bank_is_isolated :
    let s := holding station 0 ⟨0x10, 1, [1]⟩
    s.ctl.atRest ∧ s.ctl.asked 0 ⟨0x10, 1, [1]⟩ [] ∧ (1 : Octet).toNat = (0 : BankId).val + 1 ∧
      (holding station 0 ⟨0x11, 1, [1]⟩).ctl.asked 0 ⟨0x11, 1, [1]⟩ [] ∧ (s.ctl.bank 0).state ≠ .isolated ∧
      (s.ctl.bank 0).state = .idle ∧ (s.ctl.bank 0).holder = none ∧ (s.ctl.bank 0).order = none ∧
      (s.ctl.bank 0).releasePending = false ∧ (s.ctl.bank 0).nextHolder = none ∧ (0 : BankId) ∉ s.ctl.sched.queue ∧
      s.ctl.sched.claimPending ≠ some 0 ∧ s.ctl.sched.heldBank.map HeldBank.bank ≠ some 0 := by decide +kernel

/-- The context of a fill in HOLD with a cause set. -/
def held (causes : HoldCauses) : Context :=
  { ramping with state := .hold, causes := causes, rampTimer := none, holdTimer := ⟨true, 400⟩ }

/-- A record with as many segments as there may be. -/
def eighth : Record := { opened with segments := List.replicate 8 ⟨0, .low, none, none, 125⟩ }

/-- The station with a fill at nozzle 1, the banks of LOW and MID at a pressure, bank 4 refilled by the compressor at
another. -/
def stocked (x : Context) (p q : Nat) : Controller :=
  let c := fill x
  { c with
    sched := { (refilling .running).sched with refillBank := some 3, heldBank := some ⟨3, false⟩ }
    alloc := { c.alloc with
      compressorReservation := 30, compressorHeld := true
      banks := Vector.ofFn fun b =>
        if b = 0 then c.alloc.banks[b]
        else if b = 3 then { restBank .mid 1 with
          state := .refilling, holder := some .compressor, pressure := some q }
        else if b.val < 6 then { c.alloc.banks[b] with pressure := some p }
        else c.alloc.banks[b] } }

/-- Bank 1 at 21,999 kPa with a CLOSE order in flight. -/
def closing (c : Controller) : Controller := withBank c 0 { c.bank 0 with
  order := some ⟨.closed, 5, .nozzle 0, 1, some 0⟩, pressure := some 21999 }

/-- R44 for bank 1, on which nozzle 1 draws: what every clause asks of the controller. -/
abbrev isolating (c : Controller) : Prop :=
  let s := holding c 0 ⟨0x10, 1, [1]⟩
  s.ctl.calm ∧ s.ctl.asked plantPort ⟨0x10, 1, [1]⟩ [] ∧ s.ctl.roomFor plantPort 3 ∧ s.ctl.room (portOfNozzle 0) ∧
    (0 : BankId).val < s.ctl.alloc.bankCount ∧ (s.ctl.bank 0).state ≠ .isolated ∧
    (s.ctl.bank 0).nextHolder = none ∧ (s.ctl.bank 0).holder = some (.nozzle 0) ∧
    (s.ctl.ctx 0).currentBank = some ⟨0, .low, 1⟩ ∧ (0 : BankId) ∉ s.ctl.sched.queue ∧
    s.ctl.sched.claimPending ≠ some 0 ∧ s.ctl.sched.heldBank.map HeldBank.bank ≠ some 0

/-- The controller with bank 1 lost to nozzle 1, in a state, and with a cause or none. -/
def withoutBank (c : Controller) (k : BankState) (x : Context) : Controller :=
  { (c.setBank 0 { c.bank 0 with
      state := k, holder := none, order := none, releasePending := false, generation := 2 }) with
    contexts := c.contexts.set 0 { x with currentBank := none, lastBank := some ⟨0, .low, 1⟩ } }

/-- Bank 1 isolated, the fill at nozzle 1 left with BANK_SWITCH. -/
def lost (c : Controller) : Controller :=
  withoutBank c .isolated ((c.ctx 0).withCause .bankSwitch (c.port (portOfNozzle 0)).tagCounter c.orderTime)

/-- The request that follows: LP, from LOW up, 2,000 kPa above the measured 20,000 kPa. -/
def switching : BankClaim := ⟨0, 0, 1, .lp, .low, 22000⟩

/-- A controller that preempts for nobody, one whose nozzles hold no reservation, and one whose fill has 8 segments. -/
def patient (c : Controller) : Controller :=
  written c fun g => { g with banks := { g.banks with preemptEnable := false } }

def unreserved (c : Controller) : Controller :=
  { c with alloc := { c.alloc with reservations := Vector.replicate 6 0 } }

def eighthOpen (c : Controller) : Controller := { c with ring := { coldRing with records := [eighth] } }

/-- A fill that loses its bank and could have another. -/
theorem witness_drawn_bank_is_lost :
    (([stocked ramping 22000 0, stocked ramping 21999 22000, patient (stocked ramping 21999 22000),
        unreserved (stocked ramping 22000 0), stocked (held noCauses) 22000 0] : List Controller).all fun c =>
      decide (isolating c ∧ c.hasFill 0 paid opened limited) && decide ((lost c).wantsBank 0 ∧
        ¬ (lost c).storageIsLow switching ∧ (lost c).refillsWhat switching)) = true ∧
      opened.segments.length < 8 := by decide +kernel

/-- Granted another at exactly the pressure it needs; at 1 kPa less preempting the compressor's, or waiting with
preemption off; parked without a reservation. -/
theorem witness_lost_bank_is_replaced :
    (lost (stocked ramping 22000 0)).chooseBank switching = some 1 ∧
      (lost (stocked ramping 21999 22000)).chooseBank switching = none ∧
      (lost (stocked ramping 21999 22000)).toPreempt switching = some 3 ∧
      (lost (patient (stocked ramping 21999 22000))).toPreempt switching = none ∧
      (lost (unreserved (stocked ramping 22000 0))).reservation 0 = 0 := by decide +kernel

/-- Every bank of LOW and MID at 21,999 kPa. -/
def drained (x : Context) : Controller :=
  let c := stocked x 21999 21999
  withBank c 0 { c.bank 0 with pressure := some 21999 }

/-- A fill that loses its bank and ends: at 8 segments, with every bank 1 kPa too low, and in its leak check. -/
theorem witness_drawn_bank_ends_its_fill :
    (isolating (eighthOpen (drained ramping)) ∧ (eighthOpen (drained ramping)).hasFill 0 paid eighth limited ∧
        8 ≤ eighth.segments.length) ∧
      (isolating (drained ramping) ∧ (drained ramping).hasFill 0 paid opened limited ∧
        (lost (drained ramping)).wantsBank 0 ∧ (lost (drained ramping)).storageIsLow switching) ∧
      isolating (fill (checking .settle)) ∧ (fill (checking .settle)).hasFill 0 paid opened limited ∧
      (checking .settle).state = .leakCheck := by
  refine ⟨⟨?_, ?_, ?_⟩, ⟨?_, ?_, ?_, ?_⟩, ?_, ?_, ?_⟩ <;> decide +kernel

/-- A bank restored that the first entry does not qualify for, and the second does, by 1 kPa; the three banks beyond the
bank count stand IDLE. -/
theorem witness_restored_bank_is_granted :
    let waits := { restContext .lp with state := .waitResources, auth := some paid }
    let holds := { held { noCauses with bankSwitch := true } with currentBank := none }
    let l : List BankClaim := [⟨5, 1, 1, .lp, .low, 22001⟩]
    let k : BankClaim := ⟨0, 0, 2, .lp, .low, 22000⟩
    let with' := fun (x : Context) (m : List BankClaim) => holding { station with
      contexts := station.contexts.set 0 x
      alloc := { station.alloc with
        bankList := l ++ m
        banks := Vector.ofFn fun b => { restBank .low 1 with
          state := if b.val < 9 then .isolated else .idle, pressure := some 22000 } } } 0
        ⟨0x11, 1, [9]⟩
    (([with' waits [k], with' holds [k], with' waits []] : List State).all fun s =>
      decide (s.ctl.atRest ∧ s.ctl.asked plantPort ⟨0x11, 1, [9]⟩ [] ∧ s.ctl.roomFor plantPort 2 ∧
        (8 : BankId).val < s.ctl.alloc.bankCount ∧ (s.ctl.bank 8).state = .isolated ∧
        (∀ d : BankId, d.val < s.ctl.alloc.bankCount → d ≠ 8 → (s.ctl.bank d).state ≠ .idle) ∧ (∀ u ∈ l, qualifies (s.ctl.bank 8) u = false) ∧
        qualifies (s.ctl.bank 8) k = true ∧ (s.ctl.ctx 0).currentBank = none ∧
        ((s.ctl.ctx 0).state = .waitResources ∨
          (s.ctl.ctx 0).state = .hold ∧ (s.ctl.ctx 0).causes.bankSwitch = true))) = true := by decide +kernel

theorem witness_drawn_bank_is_isolated :
    let s := holding (fill ramping) 0 ⟨0x10, 1, [1]⟩
    s.ctl.atRest ∧ s.ctl.asked 0 ⟨0x10, 1, [1]⟩ [] ∧ (1 : Octet).toNat = (0 : BankId).val + 1 ∧
      (0 : BankId).val < s.ctl.alloc.bankCount ∧ (s.ctl.bank 0).state ≠ .isolated := by decide +kernel

/-- A station whose bank 1 has an order in flight. -/
def ordered (c : Controller) (o : ValveOrder) (pending : Bool) (next : Option BankClaim) : Controller :=
  withBank c 0 { c.bank 0 with order := some o, releasePending := pending, nextHolder := next }

theorem witness_close_order_expires :
    let o : ValveOrder := ⟨.closed, 5, .nozzle 0, 1, some 0⟩
    let s := alone (ordered (fill ramping) o false none)
    s.ctl.atRest ∧ (s.ctl.bank 0).order = some o ∧ o.action = .closed ∧ o.timer.isSome = true := by decide +kernel

theorem witness_bank_sample :
    let e : SampleEntry := ⟨9, 80000, 0x8000⟩
    let c := { station with sched := { restScheduler with state := .starved } }
    let s := holding c 0 ⟨0x30, 1, SampleEntry.field e⟩
    let f : SampleEntry := ⟨10, 80000, 0⟩
    let u := holding c 0 ⟨0x30, 1, SampleEntry.field f⟩
    s.ctl.atRest ∧ s.ctl.told 0 ⟨0x30, 1, SampleEntry.field e⟩ [] ∧ e.bank.toNat = (8 : BankId).val + 1 ∧
      (8 : BankId).val < s.ctl.alloc.bankCount ∧ s.ctl.alloc.bankList = [] ∧ s.ctl.sched.claimPending = none ∧
      (s.ctl.sched.state = .backoff ∨ s.ctl.sched.state = .starved ∨ s.ctl.sched.state = .faulted) ∧ u.ctl.atRest ∧
      u.ctl.told 0 ⟨0x30, 1, SampleEntry.field f⟩ [] ∧ u.ctl.alloc.bankCount < f.bank.toNat := by decide +kernel

/-- A STOPPED compressor and a bank sampled 1 kPa below its start threshold, which joins; one that stands in the queue;
and the bank being refilled, at its stop threshold. -/
theorem witness_bank_sample_is_followed :
    let queued := { station with sched := { restScheduler with queue := [3, 8] } }
    let full := refilling .running
    let joins := (⟨9, 79999, 0⟩ : SampleEntry)
    let stays := (⟨9, 80000, 0⟩ : SampleEntry)
    let ends := (⟨9, 95000, 0⟩ : SampleEntry)
    (([(station, joins), (queued, stays), (full, ends)] : List (Controller × SampleEntry)).all fun k =>
      let s := holding k.1 0 ⟨0x30, 1, SampleEntry.field k.2⟩
      decide (s.ctl.atRest ∧ s.ctl.told plantPort ⟨0x30, 1, SampleEntry.field k.2⟩ [] ∧ s.ctl.roomFor plantPort 2 ∧
        k.2.bank.toNat = (8 : BankId).val + 1 ∧ (8 : BankId).val < s.ctl.alloc.bankCount ∧
        s.ctl.alloc.bankList = [])) = true ∧
      station.mayAttempt ∧ queued.mayAttempt ∧ (8 : BankId) ∉ station.sched.queue ∧
      (8 : BankId) ∈ queued.sched.queue ∧ (station.bank 8).state = .idle ∧
      joins.pressure.toNat + 1 = station.store.settings.banks.startThreshold.of (station.bank 8).tier ∧
      ends.pressure.toNat = station.store.settings.banks.stopThreshold.of (full.bank 8).tier ∧
      full.alloc.precoolList = [] ∧ full.alloc.compressorClaim = none ∧ full.sched.refillBank = some 8 ∧
      full.sched.refilling = true ∧ full.sched.claimPending = none := by decide +kernel

/-- Three entries in one report, five octets after them: one that names no bank, and two of a bank; with a STOPPED
compressor, a STARVED one, and one in a refill, of the bank sampled 1 kPa below its stop threshold. -/
theorem witness_bank_samples_in_order :
    let l : List SampleEntry := [⟨10, 95000, 0⟩, ⟨9, 79999, 0⟩, ⟨9, 94999, 0⟩]
    let t : Telegram := ⟨0x30, 1, l.flatMap SampleEntry.field ++ List.replicate 5 7⟩
    let starved := { station with sched := { restScheduler with state := .starved } }
    Instr.wellFormed (.bankSample plantPort 1 l (List.replicate 5 7)) = true ∧
      (([station, starved, refilling .running] : List Controller).all fun c =>
        let s := holding c 0 t
        decide (s.ctl.atRest ∧ s.ctl.told plantPort t [] ∧ s.ctl.alloc.bankList = [] ∧ s.ctl.roomFor plantPort 2)) =
          true ∧
      (starved.sched.state ≠ .stopped ∧ starved.sched.claimPending = none ∧ starved.sched.refilling = false) ∧
      ((refilling .running).sched.claimPending = none ∧ (refilling .running).sched.refilling = true) ∧
      (station.mayAttempt ∧ ∀ e ∈ l, ∀ b : BankId, e.bank.toNat = b.val + 1 → b.val < station.alloc.bankCount →
        ¬ station.store.settings.banks.stopThreshold.of (station.bank b).tier ≤ min e.pressure.toNat 120000) := by
  decide +kernel

/-- R33, R66, R68: the second entry of bank 9 joins it and starts its refill, before the third is taken. -/
theorem test_bank_samples_are_taken_in_order :
    let l : List SampleEntry := [⟨9, 79999, 0⟩, ⟨9, 80000, 0⟩]
    let c := (after (exec (.bankSample 0 1 l []) (holding station 0 ⟨0x30, 1, l.flatMap SampleEntry.field⟩))).ctl
    c.sched.state = .starting ∧ c.sched.queue = [8] ∧ (c.bank 8).pressure = some 80000 := by decide +kernel

theorem witness_stale_confirmation :
    let o : ValveOrder := ⟨.opened, 5, .nozzle 0, 1, some 2000⟩
    let s := holding (ordered (fill ramping) o false none) 0 ⟨0x40, 5, [1, 0, 1]⟩
    s.ctl.atRest ∧ s.ctl.told 0 ⟨0x40, 5, [1, 0, 1]⟩ [] ∧
      ∀ b : BankId, (1 : Octet).toNat = b.val + 1 → b.val < s.ctl.alloc.bankCount →
        (s.ctl.bank b).order.map (fun o => (o.tag, (s.ctl.bank b).generation, o.action.code)) ≠ some (5, 0, 1) := by
  decide +kernel

theorem witness_release_overtakes_its_opening :
    let o : ValveOrder := ⟨.opened, 5, .nozzle 0, 1, some 0⟩
    let s := holding (ordered (fill ramping) o true none) 0 ⟨0x40, 5, [1, 1, 1]⟩
    s.ctl.atRest ∧ s.ctl.room plantPort ∧ (0 : BankId).val < s.ctl.alloc.bankCount ∧
      (s.ctl.bank 0).order = some o ∧ o.action = .opened ∧ (s.ctl.bank 0).releasePending = true ∧
      s.ctl.told 0 ⟨0x40, 5, [1, 1, 1]⟩ [] ∧ (s.ctl.bank 0).generation = 1 ∧ o.timer.isSome = true := by decide +kernel

theorem witness_compressor_releases :
    let o : ValveOrder := ⟨.closed, 5, .compressor, 1, some 2000⟩
    let c := refilling .backoff
    let s := holding (withBank c 8 { c.bank 8 with order := some o }) 0 ⟨0x40, 5, [9, 1, 2]⟩
    s.ctl.atRest ∧ (8 : BankId).val < s.ctl.alloc.bankCount ∧ (s.ctl.bank 8).order = some o ∧ o.action = .closed ∧
      (s.ctl.bank 8).holder = some .compressor ∧ (s.ctl.bank 8).nextHolder = none ∧ s.ctl.alloc.bankList = [] ∧
      s.ctl.sched.heldBank = some ⟨8, false⟩ ∧ s.ctl.sched.state ≠ .stopped ∧
      s.ctl.told 0 ⟨0x40, 5, [9, (s.ctl.bank 8).generation, 2]⟩ [] := by decide +kernel

/-- The compressor's bank: its CLOSE confirmed with a STOPPED compressor whose queue names a bank; its OPEN confirmed in
STARTING, the run confirmed or not; and its OPEN that expires. -/
theorem witness_compressor_valves :
    let closing := { refilling .stopped with
      alloc := { (refilling .stopped).alloc with compressorReservation := 0, compressorHeld := false }
      sched := { (refilling .stopped).sched with queue := [3] } }
    let ordered := fun (c : Controller) (v : Valve) =>
      withBank c 8 { c.bank 8 with order := some ⟨v, 5, .compressor, 1, some 0⟩ }
    let unrun := { refilling .starting with sched := { (refilling .starting).sched with runConfirmed := false } }
    (([ordered closing .closed, ordered (refilling .starting) .opened, ordered unrun .opened,
        ordered (refilling .running) .opened] : List Controller).all fun c =>
      decide (c.atRest ∧ c.roomFor plantPort 3 ∧ (8 : BankId).val < c.alloc.bankCount ∧
        (c.bank 8).order.isSome = true ∧ (c.bank 8).holder = some .compressor ∧ (c.bank 8).nextHolder = none ∧
        c.alloc.bankList = [] ∧ (c.bank 8).releasePending = false ∧ c.alloc.precoolList = [] ∧
        c.alloc.compressorClaim = none ∧ c.sched.claimPending = none ∧
        c.sched.heldBank.map HeldBank.bank = some 8)) = true ∧
      (ordered closing .closed).mayAttempt ∧ (refilling .starting).sched.state = .starting ∧
      (refilling .running).sched.refilling = true ∧
      (holding (ordered closing .closed) 0 ⟨0x40, 5, [9, 1, 2]⟩).ctl.told plantPort ⟨0x40, 5, [9, 1, 2]⟩ [] ∧
      (holding (ordered unrun .opened) 0 ⟨0x40, 5, [9, 1, 1]⟩).ctl.told plantPort ⟨0x40, 5, [9, 1, 1]⟩ [] := by
  decide +kernel

/-- R42 for bank 1, which nozzle 1 releases in a switch: what every clause asks of the controller. -/
abbrev releasing (c : Controller) : Prop :=
  let s := holding (closing c) 0 ⟨0x40, 5, [1, 1, 2]⟩
  s.ctl.calm ∧ s.ctl.roomFor plantPort 2 ∧ s.ctl.told plantPort ⟨0x40, 5, [1, 1, 2]⟩ [] ∧
    (0 : BankId).val < s.ctl.alloc.bankCount ∧ (s.ctl.bank 0).nextHolder = none ∧
    (s.ctl.bank 0).holder = some (.nozzle 0) ∧ (s.ctl.ctx 0).currentBank = some ⟨0, .low, 1⟩ ∧
    (s.ctl.ctx 0).state = .hold ∧ (s.ctl.ctx 0).causes.bankSwitch = true

/-- Bank 1 released, the fill at nozzle 1 without a bank. -/
def freed (c : Controller) : Controller := withoutBank (closing c) .idle (c.ctx 0)

/-- A fill in a switch whose bank closes and that could have another: as for a bank that is lost. -/
theorem witness_fill_switches_banks :
    let x := held { noCauses with bankSwitch := true }
    (([stocked x 22000 0, stocked x 21999 22000, patient (stocked x 21999 22000), unreserved (stocked x 22000 0)] :
        List Controller).all fun c => decide (releasing c ∧ c.hasFill 0 paid opened limited) &&
          decide ((freed c).wantsBank 0 ∧ ¬ (closing c).storageIsLow switching ∧
            (freed c).refillsWhat switching)) = true := by decide +kernel

theorem witness_switch_finds_its_bank :
    let x := held { noCauses with bankSwitch := true }
    (freed (stocked x 22000 0)).chooseBank switching = some 1 ∧
      (freed (stocked x 21999 22000)).chooseBank switching = none ∧
      (freed (stocked x 21999 22000)).toPreempt switching = some 3 ∧
      (freed (patient (stocked x 21999 22000))).toPreempt switching = none ∧
      (freed (unreserved (stocked x 22000 0))).reservation 0 = 0 := by decide +kernel

/-- One that ends: with every bank 1 kPa too low, and at 8 segments. -/
theorem witness_switch_ends_its_fill :
    let x := held { noCauses with bankSwitch := true }
    (releasing (drained x) ∧ (drained x).hasFill 0 paid opened limited ∧ (freed (drained x)).wantsBank 0 ∧
        (closing (drained x)).storageIsLow switching) ∧
      releasing (eighthOpen (drained x)) ∧ (eighthOpen (drained x)).hasFill 0 paid eighth limited := by
  refine ⟨⟨?_, ?_, ?_, ?_⟩, ?_, ?_⟩ <;> decide +kernel

theorem witness_bank_passes_to_its_next_holder :
    let o : ValveOrder := ⟨.closed, 5, .compressor, 1, some 2000⟩
    let k : BankClaim := ⟨5, 0, 3, .hp, .low, 22000⟩
    let c := refilling .backoff
    let s := holding (withBank c 8 { c.bank 8 with order := some o, nextHolder := some k }) 0 ⟨0x40, 5, [9, 1, 2]⟩
    s.ctl.atRest ∧ (8 : BankId).val < s.ctl.alloc.bankCount ∧ (s.ctl.bank 8).order = some o ∧ o.action = .closed ∧
      (s.ctl.bank 8).nextHolder = some k ∧ s.ctl.told 0 ⟨0x40, 5, [9, (s.ctl.bank 8).generation, 2]⟩ [] := by
  decide +kernel

theorem witness_bank_opens_for_a_fill :
    let o : ValveOrder := ⟨.opened, 5, .nozzle 0, 1, some 2000⟩
    let s := holding (ordered (fill (checking .opening)) o false none) 0 ⟨0x40, 5, [1, 1, 1]⟩
    s.ctl.atRest ∧ (0 : BankId).val < s.ctl.alloc.bankCount ∧ (s.ctl.bank 0).order = some o ∧ o.action = .opened ∧
      (s.ctl.bank 0).releasePending = false ∧ (s.ctl.bank 0).holder = some (.nozzle 0) ∧
      (s.ctl.ctx 0).state = .leakCheck ∧ (s.ctl.ctx 0).phase = some .opening ∧
      (s.ctl.ctx 0).currentBank = some ⟨0, .low, 1⟩ ∧ (s.ctl.ctx 0).auth = some paid ∧
      1 ≤ s.ctl.store.settings.ramp.pulseDelay ∧ s.ctl.told 0 ⟨0x40, 5, [1, (s.ctl.bank 0).generation, 1]⟩ [] := by
  decide +kernel

/-- A bank that opens for a fill in a switch, with that cause alone and with another; for a fill in its leak check with
a delay of 0; and one whose OPEN expires for either. -/
theorem witness_bank_opens_or_fails :
    let hurried := fun c : Controller => written c fun g => { g with ramp := { g.ramp with pulseDelay := 0 } }
    (([held { noCauses with bankSwitch := true }, held { noCauses with bankSwitch := true, plantPause := true },
        checking .opening] : List Context).all fun x =>
      let s := holding (hurried (ordered (fill x) ⟨.opened, 5, .nozzle 0, 1, some 0⟩ false none)) 0
        ⟨0x40, 5, [1, 1, 1]⟩
      decide (s.ctl.calm ∧ s.ctl.room plantPort ∧ s.ctl.room (portOfNozzle 0) ∧
        (0 : BankId).val < s.ctl.alloc.bankCount ∧ (s.ctl.bank 0).releasePending = false ∧
        (s.ctl.bank 0).holder = some (.nozzle 0) ∧ (s.ctl.ctx 0).currentBank = some ⟨0, .low, 1⟩ ∧
        s.ctl.told plantPort ⟨0x40, 5, [1, (s.ctl.bank 0).generation, 1]⟩ [] ∧
        s.ctl.store.settings.ramp.pulseDelay = 0 ∧ (s.ctl.ctx 0).auth = some paid ∧ (s.ctl.ctx 0).flowOrder = none ∧
        ((s.ctl.ctx 0).state = .leakCheck ∧ (s.ctl.ctx 0).phase = some .opening ∧ (s.ctl.ctx 0).flow = .closed ∨
          (s.ctl.ctx 0).state = .hold ∧ (s.ctl.ctx 0).causes.bankSwitch = true))) = true := by decide +kernel

/-! ## Witnesses: compression and thermal -/

theorem witness_compressor_returns :
    let faulted := { station with sched := { restScheduler with state := .faulted, stallCount := 8, inlet := some 2000 } }
    let waiting := { station with sched := { restScheduler with state := .backoff, backoff := some 0 } }
    let low := { station with sched := { restScheduler with state := .backoff, backoff := some 0, inlet := some 1999 } }
    let s := holding faulted 0 ⟨0x13, 1, []⟩
    (s.ctl.atRest ∧ s.ctl.sched.queue = [] ∧ s.ctl.asked 0 ⟨0x13, 1, []⟩ [] ∧
        ¬ (s.ctl.sched.inlet.any fun p => p < 2000) = true) ∧
      ((alone waiting).ctl.atRest ∧ waiting.sched.queue = [] ∧ waiting.sched.backoff.isSome = true ∧
        ¬ (waiting.sched.inlet.any fun p => p < 2000) = true) ∧
      (low.sched.backoff.isSome = true ∧ (low.sched.inlet.any fun p => p < 2000) = true) ∧
      station.sched.backoff = none := by decide +kernel

theorem witness_compressor_samples :
    let body := octets 3 1999 ++ octets 3 0xFFFFFF
    let high := octets 3 2000 ++ octets 3 60500
    let s := holding station 0 ⟨0x33, 1, body⟩
    let u := holding (refilling .running) 0 ⟨0x33, 1, high⟩
    (s.ctl.atRest ∧ s.ctl.told 0 ⟨0x33, 1, body⟩ [] ∧ s.ctl.sched.state ≠ .waitCooling ∧
        s.ctl.sched.refilling = false ∧ s.ctl.sched.state ≠ .starved) ∧
      u.ctl.atRest ∧ u.ctl.told 0 ⟨0x33, 1, high⟩ [] ∧ u.ctl.sched.state = .running := by decide +kernel

/-- A STOPPED compressor without reservation, its queue and latest inlet given. -/
def idling (k : CompressorState) (queue : List BankId) (inlet : Option Nat) : Controller :=
  { station with sched := { restScheduler with state := k, queue := queue, inlet := inlet, backoff := some 0 } }

/-- What a start attempt finds: a low inlet by 1 kPa, a bank to claim, a bank to claim where the load does not fit. -/
theorem witness_start_is_attempted :
    let crowded := { idling .faulted [8] none with
      alloc := { station.alloc with reservations := #v[71, 0, 0, 0, 0, 0] } }
    (([idling .faulted [8] (some 1999), idling .faulted [8] (some 2000), crowded] : List Controller).all fun c =>
      let s := holding c 0 ⟨0x13, 1, []⟩
      decide (s.ctl.atRest ∧ s.ctl.mayAttempt ∧ s.ctl.roomFor plantPort 3 ∧ s.ctl.asked plantPort ⟨0x13, 1, []⟩ [] ∧
        s.ctl.sched.backoff.isSome = true)) = true ∧
      crowded.alloc.free + 1 = crowded.store.settings.precool.compressorLoad := by decide +kernel

/-- An inlet of 1,999 kPa in a refill and in WAIT_COOLING, with and without a claim; one of 2,000 kPa in STARVED. -/
theorem witness_inlet_falls_and_recovers :
    let body := fun v : BitVec 24 => (⟨0x33, 1, octets 3 v.toNat ++ octets 3 60000⟩ : Telegram)
    let waiting := { idling .waitCooling [8] none with
      alloc := { station.alloc with compressorClaim := some 8 }
      sched := { (idling .waitCooling [8] none).sched with claimPending := some 8, refillBank := some 8 } }
    (([(refilling .starting, 1999), (refilling .running, 0), (waiting, 1999), (idling .waitCooling [] none, 1999),
        (idling .starved [8] (some 1999), 2000)] : List (Controller × BitVec 24)).all fun k =>
      let s := holding k.1 0 (body k.2)
      decide (s.ctl.atRest ∧ s.ctl.roomFor plantPort 2 ∧ s.ctl.told plantPort (body k.2) [])) = true ∧
      (refilling .starting).sched.refilling = true ∧ (refilling .running).sched.refilling = true ∧
      (refilling .running).alloc.precoolList = [] ∧ (refilling .running).alloc.compressorClaim = none ∧
      (idling .starved [8] (some 1999)).mayAttempt := by decide +kernel

theorem witness_run_is_confirmed :
    let k := { (refilling .starting).sched with runConfirmed := false, order := some ⟨.start, some 8, 5, some 2000⟩ }
    let c := { refilling .starting with sched := k }
    let d := { refilling .starting with sched := { k with stopPending := true } }
    let s := holding c 0 ⟨0x41, 5, [1]⟩
    let u := holding d 0 ⟨0x41, 5, [1]⟩
    (s.ctl.atRest ∧ s.ctl.room plantPort ∧ s.ctl.told 0 ⟨0x41, 5, [1]⟩ [] ∧
        s.ctl.sched.order = some ⟨.start, some 8, 5, some 2000⟩ ∧ s.ctl.sched.state = .starting ∧
        s.ctl.sched.stopPending = false) ∧
      (u.ctl.atRest ∧ u.ctl.room plantPort ∧ u.ctl.told 0 ⟨0x41, 5, [1]⟩ [] ∧ u.ctl.sched.stopPending = true) ∧
      (holding c 0 ⟨0x41, 5, [2]⟩).ctl.told 0 ⟨0x41, 5, [2]⟩ [] ∧
      c.sched.order.map (fun o => (o.tag, o.action.code)) ≠ some (5, 2) := by decide +kernel

theorem witness_run_order_expires :
    let at' := fun (a : RunAction) (k : CompressorState) => alone { refilling k with
      sched := { (refilling k).sched with order := some ⟨a, some 8, 5, some 0⟩ } }
    let s := at' .stop .stopped
    let u := at' .start .stopped
    (s.ctl.atRest ∧ s.ctl.room plantPort ∧ (s.ctl.port plantPort).outbound.length < 11 ∧
        s.ctl.sched.order = some ⟨.stop, some 8, 5, some 0⟩) ∧
      u.ctl.atRest ∧ u.ctl.room plantPort ∧ u.ctl.sched.order = some ⟨.start, some 8, 5, some 0⟩ ∧
      u.ctl.sched.state ≠ .starting := by decide +kernel

/-- A START confirmed outside STARTING, its refill over and a STOP pending behind it. -/
theorem witness_run_is_confirmed_too_late :
    let c := { station with sched := { restScheduler with
      order := some ⟨.start, some 8, 5, some 2000⟩, stopPending := true } }
    let s := holding c 0 ⟨0x41, 5, [1]⟩
    s.ctl.atRest ∧ s.ctl.room plantPort ∧ s.ctl.told 0 ⟨0x41, 5, [1]⟩ [] ∧
      s.ctl.sched.order = some ⟨.start, some 8, 5, some 2000⟩ ∧ s.ctl.sched.stopPending = true ∧
      s.ctl.sched.state ≠ .starting := by decide +kernel

/-- A STOP confirmed with a bank to claim, a START confirmed outside STARTING, and a START that expires in STARTING. -/
theorem witness_run_order_is_settled :
    let runs := fun (c : Controller) (a : RunAction) =>
      { c with sched := { c.sched with order := some ⟨a, some 8, 5, some 0⟩ } }
    (let s := holding (runs (idling .stopped [8] none) .stop) 0 ⟨0x41, 5, [2]⟩
     s.ctl.atRest ∧ s.ctl.roomFor plantPort 3 ∧ s.ctl.mayAttempt ∧ s.ctl.told plantPort ⟨0x41, 5, [2]⟩ []) ∧
      (let s := holding (runs (idling .stopped [8] none) .start) 0 ⟨0x41, 5, [1]⟩
       s.ctl.atRest ∧ s.ctl.sched.state ≠ .starting ∧ s.ctl.sched.stopPending = false ∧
         s.ctl.told plantPort ⟨0x41, 5, [1]⟩ []) ∧
      (let s := alone (runs (refilling .starting) .start)
       s.ctl.atRest ∧ s.ctl.roomFor plantPort 3 ∧ s.ctl.sched.state = .starting ∧ s.ctl.sched.claimPending = none ∧
         s.ctl.alloc.precoolList = [] ∧ s.ctl.alloc.compressorClaim = none) := by decide +kernel

/-- At stall counts 6 and 7, either side of the limit of 8. -/
theorem witness_compressor_stalls :
    let s := alone (refilling .running)
    let u := alone { refilling .running with sched := { (refilling .running).sched with stallCount := 6 } }
    (s.ctl.calm ∧ s.ctl.sched.state = .running ∧ s.ctl.sched.stallWindow.isSome = true ∧
        8 ≤ s.ctl.sched.stallCount + 1) ∧
      u.ctl.calm ∧ u.ctl.sched.state = .running ∧ u.ctl.sched.stallWindow.isSome = true ∧
      u.ctl.sched.stallCount + 1 < 8 := by decide +kernel

theorem witness_compressor_stalls_with_room :
    (refilling .running).roomFor plantPort 3 ∧ (refilling .running).sched.claimPending = none := by decide +kernel

/-- The telegram of a chiller sample, and of an ambient sample of three equal values. -/
def chilled (v : BitVec 16) (d : Octet) : Telegram := ⟨0x31, 1, octets 2 v.toNat ++ [d]⟩

def ambient (v : BitVec 16) : Telegram := ⟨0x32, 1, octets 2 v.toNat ++ octets 2 v.toNat ++ octets 2 v.toNat⟩

theorem witness_chiller_sample :
    (([(0xFEB6, 82), (0x7FFF, 0), (0x8000, 255)] : List (BitVec 16 × Octet)).all fun k =>
        let s := holding (fill ramping) 0 (chilled k.1 k.2)
        decide (s.ctl.atRest ∧ s.ctl.told 0 (chilled k.1 k.2) [])) = true ∧
      (let s := holding (fill ramping) 0 (chilled 0xFEB6 82)
       s.ctl.calm ∧ classOfSupply (max (-600) (min 1500 (0xFEB6 : BitVec 16).toInt)) = s.ctl.thermal.precoolClass ∧
         s.ctl.alloc.sum ≤ s.ctl.store.settings.precool.nominal - (82 : Octet).toNat) := by decide +kernel

/-- A class change reaching a fill in RAMPING and in HOLD, with an entry and without: colder, warmer with a permitted
entry (T30), warmer without one (NONE). -/
theorem witness_class_change_reaches_the_fills :
    let bare := { held { noCauses with precoolWarm := true } with entry := none, target := none }
    (([(ramping, 0xFEFC), (ramping, 0), (held { noCauses with precoolWarm := true }, 0xFEFC), (bare, 0xFEFC),
        (bare, 0)] : List (Context × BitVec 16)).all fun k =>
      let s := holding (fill k.1) 0 (chilled k.2 82)
      decide (s.ctl.calm ∧ s.ctl.told 0 (chilled k.2 82) [] ∧ s.ctl.room (portOfNozzle 0) ∧
        classOfSupply (max (-600) (min 1500 k.2.toInt)) ≠ s.ctl.thermal.precoolClass ∧
        s.ctl.alloc.sum ≤ s.ctl.store.settings.precool.nominal - (82 : Octet).toNat)) = true ∧
      (let c := { fill { ramping with entry := some ⟨80, 40000, .noClass, 10⟩ } with thermal := restThermal }
       (holding c 0 (chilled 0xFEB6 82)).ctl.calm ∧
         classOfSupply (max (-600) (min 1500 (0xFEB6 : BitVec 16).toInt)) ≠ c.thermal.precoolClass) ∧
      classOfSupply (max (-600) (min 1500 (0xFEFC : BitVec 16).toInt)) = .t30 ∧
      (station.store.settings.ramp.permitted .lp 3 .t30).isSome = true ∧
      station.store.settings.ramp.permitted .lp 3 .noClass = none := by decide +kernel

/-- A capacity that the compressor's share alone exceeds, in a refill and without; and one a fill's reservation
exceeds by 1, in RAMPING, HOLD and LEAK_CHECK and in WAIT_RESOURCES with its bank request waiting. -/
theorem witness_reservations_are_shed :
    let both := { fill ramping with
      sched := (refilling .running).sched
      alloc := { (fill ramping).alloc with compressorReservation := 30, compressorHeld := true } }
    let alone' := { both with sched := restScheduler }
    (([both, alone'] : List Controller).all fun c =>
      let s := holding c 0 (chilled 0xFE70 82)
      decide (s.ctl.atRest ∧ s.ctl.roomFor plantPort 2 ∧ s.ctl.told 0 (chilled 0xFE70 82) [] ∧
        s.ctl.alloc.precoolList = [] ∧ s.ctl.alloc.compressorClaim = none ∧
        classOfSupply (max (-600) (min 1500 (0xFE70 : BitVec 16).toInt)) = s.ctl.thermal.precoolClass ∧
        s.ctl.store.settings.precool.nominal - (82 : Octet).toNat < s.ctl.alloc.sum ∧
        s.ctl.alloc.reservations.toList.sum ≤ s.ctl.store.settings.precool.nominal - (82 : Octet).toNat)) = true ∧
      (let k : BankClaim := ⟨0, 0, 1, .lp, .low, 22000⟩
       let waits := { restContext .lp with state := .waitResources, auth := some paid, join := some 1 }
       (([(ramping, none), (held noCauses, none), (checking .settle, none), (waits, some k)] :
           List (Context × Option BankClaim)).all fun u =>
         let c := fill u.1
         let s := holding { c with alloc := { c.alloc with bankList := u.2.toList } } 0 (chilled 0xFE70 83)
         decide (s.ctl.atRest ∧ s.ctl.roomFor plantPort 2 ∧ s.ctl.room (portOfNozzle 0) ∧
           s.ctl.alloc.precoolList = [] ∧ s.ctl.alloc.compressorReservation = 0 ∧ (∀ m, m ≠ 0 → s.ctl.reservation m = 0) ∧
           s.ctl.store.settings.precool.nominal - (83 : Octet).toNat + 1 = s.ctl.reservation 0 ∧
           s.ctl.alloc.bankList = u.2.toList ∧ (∀ k ∈ u.2, k.nozzle = 0) ∧
           ∀ b, ∀ k ∈ (s.ctl.bank b).nextHolder, k.nozzle ≠ 0)) = true) := by decide +kernel

/-- Of three nozzles with reservations, one of rank 2: the order, and a capacity that two of them must free. -/
theorem witness_shedding_order :
    let c := { fill ramping with
      contexts := ((station.contexts.set 0 ramping).set 1 { ramping with join := some 2 }).set 5
        { restContext .hp with state := .waitResources, auth := some paid, join := some 1 }
      alloc := { (fill ramping).alloc with
        capacity := 20, reservations := #v[18, 18, 0, 0, 0, 20]
        banks := (fill ramping).alloc.banks.set 1
          { restBank .low 1 with state := .drawing, holder := some (.nozzle 1) } } }
    c.shedOrder = [5, 1, 0] ∧ c.alloc.capacity < c.alloc.sum ∧ c.shed.ctl.reservation 5 = 0 ∧
      c.shed.ctl.reservation 1 = 0 ∧ c.shed.ctl.reservation 0 = 18 ∧ (1 : Nozzle) ∈ c.shedOrder.take 2 ∧
      (c.ctx 1).state ≠ .leakCheck ∧ (fill ramping).alloc.sum ≤ (fill ramping).alloc.capacity := by decide +kernel

/-- At both ends of the valid range and one tenth of a degree beyond each. -/
theorem witness_ambient_sample :
    (([0xFE0C, 0xFE0B, 700, 701] : List (BitVec 16)).all fun v =>
        decide ((holding station 0 (ambient v)).ctl.atRest ∧
          (holding station 0 (ambient v)).ctl.told 0 (ambient v) [])) = true ∧
      ({ restThermal with condition := .held, holdTimer := some 0 } : Thermal).holdTimer.isSome = true ∧
      station.thermal.holdTimer = none ∧ strictlyRising defaultSettings.ambient.edges.toList = true ∧
      ReductionMode.weighted ≠ .primary := by decide +kernel

/-! ## Witnesses: the till -/

/-- An AUTHORISE telegram for a nozzle number, a money limit, a mass limit, a class and a priority. -/
def authorising (k : Octet) (l : BitVec 32) (m : BitVec 48) (cls prio : Octet) : Telegram :=
  ⟨0x20, 1, k :: octets 4 l.toNat ++ octets 6 m.toNat ++ [cls, prio]⟩

theorem witness_nozzle_is_authorised :
    let t := authorising 6 9999999 0xFFFFFFFFFFFF 3 2
    let s := holding station tillPort t
    s.ctl.atRest ∧ s.ctl.asked tillPort t [] ∧ s.ctl.store.clockSet = true ∧ (s.ctl.ctx 5).state = .idle ∧
      (s.ctl.ctx 5).releaseOutstanding = false ∧ (s.ctl.port (portOfNozzle 5)).service = .inService ∧
      (s.ctl.port (portOfNozzle 5)).link = .up ∧ 1 ≤ (9999999 : BitVec 32).toNat ∧
      (9999999 : BitVec 32).toNat ≤ 9999999 ∧ (3 : Octet).toNat ≤ 3 ∧ (2 : Octet).toNat ≤ 2 ∧
      s.ctl.ring.records.length < 64 := by decide +kernel

/-- The station with nozzle 1 CONNECTED, T40 in force, the banks of LOW and MID at a pressure, bank 4 refilled by the
compressor at another; the reservations given. -/
def connected (reservations : Vector Nat 6) (p q : Nat) : Controller :=
  let c := stocked { restContext .lp with state := .connected, connected := true, vehicleData := true } p q
  { c with
    ring := coldRing
    alloc := { c.alloc with
      reservations := reservations, banks := c.alloc.banks.set 0 { restBank .low 1 with pressure := some p } } }

/-- The request of a nozzle that has measured 0 kPa: 2,000 kPa are needed. -/
def starting : BankClaim := ⟨0, 0, 1, .lp, .low, 2000⟩

/-- A CONNECTED nozzle whose amount of 18 finds 17 free, alone and behind an entry; and one whose amount fits exactly:
granted a bank at exactly the pressure it needs, preempting the compressor's, or waiting. -/
theorem witness_connected_nozzle_is_authorised :
    let t := authorising 1 9999999 0 3 0
    let behind := { connected #v[0, 53, 0, 0, 0, 0] 2000 0 with
      alloc := { (connected #v[0, 53, 0, 0, 0, 0] 2000 0).alloc with precoolList := [⟨5, 1, 1, 18⟩] } }
    (([connected #v[0, 53, 0, 0, 0, 0] 2000 0, behind, connected #v[0, 52, 0, 0, 0, 0] 2000 0,
        connected #v[0, 52, 0, 0, 0, 0] 1999 2000, patient (connected #v[0, 52, 0, 0, 0, 0] 1999 2000)] :
        List Controller).all fun c =>
      let s := holding c tillPort t
      decide (s.ctl.atRest ∧ s.ctl.asked tillPort t [] ∧ s.ctl.store.clockSet = true ∧
        (s.ctl.ctx 0).state = .connected ∧ (s.ctl.ctx 0).releaseOutstanding = false ∧
        (s.ctl.port (portOfNozzle 0)).service = .inService ∧ (s.ctl.port (portOfNozzle 0)).link = .up) &&
      decide (s.ctl.ring.records.length < 64 ∧ s.ctl.joinCounter < 4294967295 ∧ s.ctl.reservation 0 = 0 ∧
        (∀ e ∈ s.ctl.alloc.precoolList, e.nozzle ≠ 0) ∧ s.ctl.alloc.compressorClaim = none ∧
        s.ctl.store.settings.ramp.amount .lp s.ctl.thermal.band s.ctl.thermal.precoolClass = 18)) = true ∧
      (behind.alloc.free = 17 ∧ (connected #v[0, 52, 0, 0, 0, 0] 2000 0).alloc.free = 18) := by decide +kernel

/-- R51, R54 for a nozzle granted its 18 at once: what the clause asks of the controller with the amount granted. -/
abbrev startingFits (c : Controller) : Prop :=
  c.alloc.precoolList = [] ∧ c.alloc.bankList = [] ∧ c.wantsBank 0 ∧ c.roomFor plantPort 2 ∧
    (∀ q ∈ c.ring.records, q.seq ≠ c.ring.nextSeq) ∧ ¬ c.storageIsLow starting ∧ c.refillsWhat starting

theorem witness_precool_is_granted_at_once :
    (([connected #v[0, 52, 0, 0, 0, 0] 2000 0, connected #v[0, 52, 0, 0, 0, 0] 1999 2000,
        patient (connected #v[0, 52, 0, 0, 0, 0] 1999 2000)] : List Controller).all fun c =>
      decide (startingFits c)) = true ∧
      (connected #v[18, 52, 0, 0, 0, 0] 2000 0).chooseBank starting = some 0 ∧
      (connected #v[18, 52, 0, 0, 0, 0] 1999 2000).toPreempt starting = some 3 ∧
      (patient (connected #v[18, 52, 0, 0, 0, 0] 1999 2000)).toPreempt starting = none := by decide +kernel

/-- A test of each kind that fails: the nozzle numbers beyond the range, the limit 0 and one too great, a class and a
priority one too great, a nozzle that does not stand ready, a full ring, a clock not set. -/
theorem witness_authorise_is_refused :
    (([authorising 0 1 0 0 0, authorising 7 1 0 0 0, authorising 1 0 0 0 0, authorising 1 10000000 0 0 0,
        authorising 1 1 0 4 0, authorising 1 1 0 0 3] : List Telegram).all fun t =>
      let s := holding station tillPort t
      decide (s.ctl.atRest ∧ s.ctl.asked tillPort t [] ∧ s.ctl.store.clockSet = true)) = true ∧
      (fill ramping).ctx 0 = ramping ∧ ramping.state ≠ .idle ∧ ramping.state ≠ .connected ∧
      64 ≤ (List.replicate 64 opened).length ∧ State.reset.ctl.store.clockSet = false := by decide +kernel

theorem witness_tariff_is_written :
    let t : Telegram := ⟨0x22, 1, (Vector.replicate 8 (0xFFFF : BitVec 16)).toList.flatMap (fun v => octets 2 v.toNat) ++
      octets 4 0⟩
    (holding station tillPort t).ctl.atRest ∧ (holding station tillPort t).ctl.asked tillPort t [] := by decide +kernel

/-- The records 1 (OPEN) and 2 (CLOSED), the second with a reference of 16 octets. -/
def twoRecords : Controller :=
  { station with ring := { coldRing with
    records := [opened, { opened with seq := 2, closed := true, reference := some (List.replicate 16 65) }]
    nextSeq := 3, nextSlot := 2 } }

theorem witness_records_are_served :
    (([⟨0x23, 1, octets 4 1 ++ partField none⟩, ⟨0x25, 1, octets 4 2 ++ List.replicate 16 66⟩, ⟨0x26, 1, octets 4 2⟩,
        ⟨0x27, 1, octets 4 9 ++ octets 4 5⟩] : List Telegram).all fun t =>
      decide ((holding twoRecords tillPort t).ctl.atRest ∧ (holding twoRecords tillPort t).ctl.asked tillPort t [])) =
        true ∧ (List.replicate 16 (66 : Octet)).length ≤ 16 ∧ twoRecords.ring.find 1 = some opened ∧
      (twoRecords.ring.find 2).isSome = true ∧ twoRecords.ring.find 9 = none := by decide +kernel

theorem witness_records_are_acknowledged :
    let c := { twoRecords with ring := { twoRecords.ring with pacing := some 0 } }
    let t : Telegram := ⟨0x24, 1, octets 4 0xFFFFFFFF⟩
    (holding c tillPort t).ctl.atRest ∧ (holding c tillPort t).ctl.asked tillPort t [] ∧
      c.ring.pacing.isSome = true := by decide +kernel

/-- A CLOSED record left behind an OPEN one: the pacing timer running, stopped with the port DOWN, and stopped with 11
telegrams and with 10 waiting for the line. -/
theorem witness_closed_records_remain :
    let c := { station with ring := { coldRing with
      records := [{ opened with closed := true }, { opened with seq := 2 }, { opened with seq := 3, closed := true }]
      nextSeq := 4, nextSlot := 3 } }
    let t : Telegram := ⟨0x24, 1, octets 4 3⟩
    let at' := fun (r : PortRec) (pacing : Timer) => holding { c with
      ports := station.ports.set 1 r, ring := { c.ring with pacing := pacing } } tillPort t
    let queue := fun k : Nat => { upPort with
      line := some ⟨0x60, 0, []⟩, outbound := List.replicate k ⟨0x60, 0, []⟩ }
    (([at' upPort (some 0), at' (restPort .inService) none, at' (queue 11) none, at' (queue 10) none] :
        List State).all fun s => decide (s.ctl.atRest ∧ s.ctl.asked tillPort t [])) = true ∧
      (c.ring.records.drop 1).any (fun r => r.closed) = true := by decide +kernel

theorem witness_records_notice_is_paced :
    let s := alone { twoRecords with ring := { twoRecords.ring with noticeOwed := true, pacing := some 0 } }
    s.ctl.atRest ∧ s.ctl.room tillPort ∧ (s.ctl.port tillPort).link = .up ∧ s.ctl.ring.pacing.isSome = true ∧
      (s.ctl.ring.noticeOwed && s.ctl.ring.records.any (fun r => r.closed)) = true := by decide +kernel

/-! ## Witnesses: dispensers -/

theorem witness_nozzle_connects :
    (let s := holding station 7 ⟨0x38, 1, [2, 255]⟩
     s.ctl.atRest ∧ s.ctl.told (portOfNozzle 5) ⟨0x38, 1, [2, 255]⟩ [] ∧ (s.ctl.ctx 5).state = .idle) ∧
      (let s := holding (fill ramping) 2 ⟨0x38, 1, [1, 0]⟩
       s.ctl.atRest ∧ s.ctl.told (portOfNozzle 0) ⟨0x38, 1, [1, 0]⟩ [] ∧ (s.ctl.ctx 0).state ≠ .idle ∧
         (s.ctl.ctx 0).state ≠ .authorised) := by decide +kernel

/-- The station of `connected`, with a fill AUTHORISED at nozzle 1 in its place. -/
def awaited (reservations : Vector Nat 6) (p q : Nat) : Controller :=
  let c := connected reservations p q
  { c with
    contexts := c.contexts.set 0 { restContext .lp with
      state := .authorised, auth := some paid, connectWait := some 120000 }
    ring := { coldRing with records := [opened], nextSeq := 2, nextSlot := 1 } }

/-- An AUTHORISED nozzle that connects: with a vehicle of the other class; and granted its precool at once, with low
storage by 1 kPa, a bank of exactly the pressure, preempting, or waiting. -/
theorem witness_authorised_nozzle_connects :
    (([awaited #v[0, 52, 0, 0, 0, 0] 1999 1999, awaited #v[0, 52, 0, 0, 0, 0] 2000 0,
        awaited #v[0, 52, 0, 0, 0, 0] 1999 2000, patient (awaited #v[0, 52, 0, 0, 0, 0] 1999 2000)] :
        List Controller).all fun c =>
      (([2, 1] : List Octet).all fun k =>
        let s := holding c 2 ⟨0x38, 1, [k, 1]⟩
        decide (s.ctl.calm ∧ s.ctl.roomFor plantPort 2 ∧ s.ctl.told (portOfNozzle 0) ⟨0x38, 1, [k, 1]⟩ [])) &&
      decide ((c.ctx 0).state = .authorised ∧ c.hasFill 0 paid opened limited ∧ (c.ctx 0).vclass = .lp ∧
        c.joinCounter < 4294967295 ∧ (c.ctx 0).bankRequestMade = false ∧ c.wantsBank 0 ∧ c.reservation 0 = 0) &&
      decide (c.store.settings.ramp.amount .lp c.thermal.band c.thermal.precoolClass = 18 ∧ 18 ≤ c.alloc.free)) =
        true ∧
      (awaited #v[0, 52, 0, 0, 0, 0] 1999 1999).storageIsLow starting ∧
      ¬ (awaited #v[0, 52, 0, 0, 0, 0] 1999 2000).storageIsLow starting ∧
      (awaited #v[18, 52, 0, 0, 0, 0] 1999 2000).refillsWhat starting := by decide +kernel

/-- An AUTHORISED nozzle of priority 1 connects while one of priority 2 waits for more than is free. -/
theorem witness_nozzle_waits_for_resources :
    let c := { fill { restContext .lp with state := .authorised, auth := some { paid with priority := 1 } } with
      alloc := { station.alloc with
        reservations := #v[0, 90, 0, 0, 0, 0], precoolList := [⟨2, 2, 1, 18⟩] }
      joinCounter := 4294967294 }
    let s := holding c 2 ⟨0x38, 1, [1, 1]⟩
    s.ctl.atRest ∧ s.ctl.told (portOfNozzle 0) ⟨0x38, 1, [1, 1]⟩ [] ∧ (s.ctl.ctx 0).state = .authorised ∧
      (s.ctl.ctx 0).vclass = .lp ∧ s.ctl.joinCounter < 4294967295 ∧ s.ctl.alloc.precoolList ≠ [] ∧
      (∀ e ∈ s.ctl.alloc.precoolList, e.nozzle ≠ 0 ∧ s.ctl.alloc.free < e.amount ∧ 2 ≤ e.priority) ∧
      s.ctl.reservation 0 = 0 ∧ (s.ctl.ctx 0).auth = some { paid with priority := 1 } := by decide +kernel

theorem witness_nozzle_hangs :
    (([.connected, .complete, .ending, .idle, .authorised] : List NozzleState).all fun k =>
      let s := holding (fill { ramping with state := k }) 2 ⟨0x39, 1, []⟩
      decide (s.ctl.atRest ∧ s.ctl.told (portOfNozzle 0) ⟨0x39, 1, []⟩ [] ∧ (s.ctl.ctx 0).state = k)) = true := by
  decide +kernel

/-- A FIELD_SAMPLE telegram of a count: 20,000 kPa, 10.0 °C, no tank temperature. -/
def sampled (count : BitVec 16) : Telegram :=
  ⟨0x3B, 1, octets 3 (20000 : BitVec 24).toNat ++ octets 2 (100 : BitVec 16).toNat ++
    octets 2 (0x8000 : BitVec 16).toNat ++ [0] ++ octets 2 count.toNat⟩

theorem witness_field_sample_outside_a_fill :
    let c := { station with meters := station.meters.set 5 { restMeter with reference := some 65535 } }
    let s := holding c 7 (sampled 0)
    s.ctl.atRest ∧ s.ctl.room plantPort ∧ s.ctl.told (portOfNozzle 5) (sampled 0) [] ∧
      (s.ctl.ctx 5).state ∈ [NozzleState.idle, .authorised, .connected, .waitResources, .complete] ∧
      (s.ctl.meter 5).metering = false := by decide +kernel

/-- A rise of 400 pulses is plausible, one of 401 is not (the default of R133); the meter's limits and its implausible
counter choose the clause. -/
theorem witness_field_sample_is_metered :
    let x := { ramping with target := some 20000000 }
    let held := fun (m : Meter) (count : BitVec 16) =>
      holding { fill x with meters := station.meters.set 0 m } 2 (sampled count)
    let m : Meter := { restMeter with reference := some 65535, metering := true, limits := some limited }
    let near : Meter := { m with limits := some { limited with threshold := 41000 } }
    let third : Meter := { m with implausible := 2 }
    (([(m, 398), (near, 399), (m, 400), (third, 400)] : List (Meter × BitVec 16)).all fun k =>
      let s := held k.1 k.2
      decide (s.ctl.calm ∧ s.ctl.told (portOfNozzle 0) (sampled k.2) [] ∧ (s.ctl.meter 0).metering = true ∧
        (s.ctl.meter 0).reference = some 65535 ∧ (s.ctl.meter 0).stopReport = none ∧
        (s.ctl.meter 0).faultReport = false ∧ (s.ctl.ctx 0).state = .ramping ∧ (s.ctl.ctx 0).auth = some paid ∧
        s.ctl.recordOf 0 = some opened ∧ (s.ctl.ctx 0).rampEnd s.ctl.store.settings.ramp.upperBand = none)) = true ∧
      opened.closed = false ∧ opened.segments ≠ [] ∧
      (x.storeSample (clampPressure 20000) (clampTemperature 100) (tankTemperature 0x8000) (vehicleFlags 0)).rampEnd
        station.store.settings.ramp.upperBand = none ∧
      station.store.settings.meter.maxPulses[(0 : Nozzle)] = 400 ∧
      (399 + 65536 - 65535) % 65536 = 400 ∧ 41000 ≤ opened.metered + 400 * station.store.settings.meter.kFactor[(0 : Nozzle)] := by
  decide +kernel

/-- A FIELD_SAMPLE telegram with a pressure, a tank temperature and vehicle flags, the count 15. -/
def judged (pressure : BitVec 24) (tank : BitVec 16) (flags : Octet) : Telegram :=
  ⟨0x3B, 1, octets 3 pressure.toNat ++ octets 2 (100 : BitVec 16).toNat ++ octets 2 tank.toNat ++ [flags] ++
    octets 2 (15 : BitVec 16).toNat⟩

/-- R121 and R109 at their limits, and 1 kPa or a tenth of a degree below: the maximum of LP, the P_end and 2,000 kPa
above it, the target and the upper band, 85.0 °C, the flags; a settle window disturbed by the band and 1 kPa more, at
0, 2 and 3 restarts, its sensitive part over, left and whole; and ENDING. -/
theorem witness_field_sample_is_judged :
    let x := { ramping with vehicleData := true }
    let tight := { x with entry := some ⟨150, 41000, .t40, 18⟩, target := some 41000000 }
    let settles := fun (restarts : Nat) (part : SensitivePart) =>
      { checking .settle with restarts := restarts, sensitive := part, vehicleData := true }
    (([(x, judged 43750 0x8000 0), (x, judged 43751 0x8000 0), (tight, judged 43000 0x8000 0),
        (tight, judged 43001 0x8000 0), (x, judged 27000 0x8000 0), (x, judged 27001 0x8000 0),
        (x, judged 20000 849 0), (x, judged 20000 850 0), (x, judged 20000 0 1), (x, judged 20000 0 2),
        (settles 0 .over, judged 20301 0 0), (settles 0 .whole, judged 20300 0 0), (settles 2 (.left 0), judged 20301 0 0),
        (settles 3 .whole, judged 19699 0 0), (settles 0 .whole, judged 43751 0 0), (settles 0 .whole, judged 20000 850 3),
        ({ x with state := .ending }, judged 43751 850 3)] : List (Context × Telegram)).all fun k =>
      let s := holding (fill k.1) 2 k.2
      decide (s.ctl.calm ∧ s.ctl.told (portOfNozzle 0) k.2 [] ∧ s.ctl.hasFill 0 paid opened limited ∧
        (s.ctl.meter 0).metering = true ∧ (s.ctl.meter 0).reference = some 10) &&
      decide (((s.ctl.counted 0 paid opened limited 10 15).meter 0).stopReport = none ∧
        ((s.ctl.counted 0 paid opened limited 10 15).meter 0).faultReport = false)) = true := by decide +kernel

/-- In ENDING: a CLOSE confirmed, a FLOW OPEN in flight at the entry confirmed, and the order's timer expired. -/
theorem witness_flow_confirmation_in_ending :
    let x := { ramping with state := .ending, endReason := some .customerStop, wanted := .closed, rampTimer := none }
    let shut : FlowOrder := ⟨.closed, 5, 1, some 0⟩
    let open' : FlowOrder := ⟨.opened, 5, 1, some 0⟩
    (([({ x with flowOrder := some shut }, shut), ({ x with flow := .closed, flowOrder := some open' }, open')] :
        List (Context × FlowOrder)).all fun k =>
      let t : Telegram := ⟨0x42, 5, [1, k.2.action.code]⟩
      let s := holding (fill k.1) 2 t
      decide (s.ctl.atRest ∧ s.ctl.room (portOfNozzle 0) ∧ s.ctl.told (portOfNozzle 0) t [] ∧
        (s.ctl.ctx 0).flowOrder = some k.2 ∧ (s.ctl.ctx 0).state = .ending ∧ (s.ctl.ctx 0).wanted = .closed ∧
        (s.ctl.ctx 0).flowBank = some ⟨0, .low, 1⟩ ∧ (s.ctl.ctx 0).auth = some paid) &&
      decide ((alone (fill k.1)).ctl.atRest ∧ k.2.timer.isSome = true)) = true := by decide +kernel

theorem witness_flow_confirmation :
    let o : FlowOrder := ⟨.opened, 5, 1, some 2000⟩
    let s := holding (fill { ramping with flow := .closed, wanted := .closed, flowOrder := some o }) 2 ⟨0x42, 5, [1, 1]⟩
    let u := holding (fill { ramping with flowOrder := some o }) 2 ⟨0x42, 5, [0, 1]⟩
    (s.ctl.atRest ∧ s.ctl.room (portOfNozzle 0) ∧ s.ctl.told (portOfNozzle 0) ⟨0x42, 5, [1, 1]⟩ [] ∧
        (s.ctl.ctx 0).flowOrder = some o ∧ (s.ctl.ctx 0).state = .ramping ∧
        (s.ctl.ctx 0).flowBank = some ⟨0, .low, 1⟩) ∧
      u.ctl.told (portOfNozzle 0) ⟨0x42, 5, [0, 1]⟩ [] ∧
      (u.ctl.ctx 0).flowOrder.map (fun o => (o.tag, o.generation, o.action.code)) ≠ some (5, 0, 1) := by decide +kernel

/-! ## Witnesses: fills -/

/-- The context of a fill in ENDING whose vent is ordered. -/
def venting (settled : Bool) : Context :=
  { ramping with
    state := .ending, endReason := some .customerStop, flow := .closed, wanted := .closed, rampTimer := none
    ventOrder := some ⟨5, some 0⟩, bankSettled := settled }

theorem witness_vent_settles :
    let t : Telegram := ⟨0x43, 5, octets 2 (10 : BitVec 16).toNat⟩
    let u : Telegram := ⟨0x43, 4, octets 2 (10 : BitVec 16).toNat⟩
    let s := holding (fill (venting false)) 2 t
    s.ctl.atRest ∧ (s.ctl.ctx 0).state = .ending ∧ (s.ctl.ctx 0).bankSettled = false ∧ (s.ctl.ctx 0).auth = some paid ∧
      (s.ctl.ctx 0).ventOrder = some ⟨5, some 0⟩ ∧ s.ctl.told (portOfNozzle 0) t [] ∧
      (holding (fill (venting false)) 2 u).ctl.told (portOfNozzle 0) u [] ∧ (s.ctl.meter 0).metering = true ∧
      (s.ctl.meter 0).reference = some 10 ∧ s.ctl.recordOf 0 = some opened ∧ opened.metered < 2 ^ 48 := by
  decide +kernel

theorem witness_vent_closes_the_fill :
    let s := alone (fill (venting true))
    s.ctl.atRest ∧ s.ctl.hasFill 0 paid opened limited ∧ (s.ctl.ctx 0).state = .ending ∧
      (s.ctl.ctx 0).bankSettled = true ∧ (s.ctl.ctx 0).ventOrder = some ⟨5, some 0⟩ := by decide +kernel

/-- A VENT_DONE with a final count, the bank settled or not; and the bank that closes, the vent settled or not. -/
theorem witness_settling_closes_the_fill :
    let t : Telegram := ⟨0x43, 5, octets 2 (15 : BitVec 16).toNat⟩
    let closing := fun vent : Bool => ordered
      (fill { venting false with ventSettled := vent, ventOrder := if vent then none else some ⟨5, some 0⟩ })
      ⟨.closed, 5, .nozzle 0, 1, some 0⟩ false none
    (([false, true] : List Bool).all fun settled =>
      let s := holding (fill (venting settled)) 2 t
      let u := holding (closing settled) 0 ⟨0x40, 5, [1, 1, 2]⟩
      decide (s.ctl.atRest ∧ s.ctl.told (portOfNozzle 0) t [] ∧ s.ctl.hasFill 0 paid opened limited ∧
        (s.ctl.ctx 0).state = .ending ∧ (s.ctl.ctx 0).ventOrder = some ⟨5, some 0⟩ ∧
        (s.ctl.ctx 0).bankSettled = settled ∧ (s.ctl.meter 0).metering = true ∧
        (s.ctl.meter 0).reference = some 10) &&
      decide (u.ctl.atRest ∧ u.ctl.alloc.bankList = [] ∧ u.ctl.told plantPort ⟨0x40, 5, [1, 1, 2]⟩ [] ∧
        u.ctl.hasFill 0 paid opened limited ∧ (u.ctl.ctx 0).state = .ending ∧
        (u.ctl.ctx 0).currentBank = some ⟨0, .low, 1⟩ ∧ (u.ctl.ctx 0).ventSettled = settled ∧
        (u.ctl.bank 0).holder = some (.nozzle 0) ∧ (u.ctl.bank 0).nextHolder = none)) = true ∧
      ((fill (venting true)).counted 0 paid opened limited 10 15).recordOf 0 =
        some { opened with metered := 1500, segments := [⟨0, .low, some 40000, none, 1500⟩] } := by decide +kernel

theorem witness_fill_enters_ending :
    (let s := holding (fill ramping) tillPort ⟨0x21, 1, [1]⟩
     s.ctl.calm ∧ (s.ctl.ctx 0).state = .ramping ∧ s.ctl.asked tillPort ⟨0x21, 1, [1]⟩ []) ∧
      (let s := holding (fill ramping) 2 ⟨0x3A, 1, []⟩
       s.ctl.calm ∧ s.ctl.told (portOfNozzle 0) ⟨0x3A, 1, []⟩ []) ∧
      (let s := holding (fill ramping) 2 ⟨0x39, 1, []⟩
       s.ctl.calm ∧ s.ctl.told (portOfNozzle 0) ⟨0x39, 1, []⟩ []) ∧
      (let s := alone (fill { ramping with flowOrder := some ⟨.opened, 5, 1, some 0⟩ })
       s.ctl.calm ∧ ∃ o ∈ (s.ctl.ctx 0).flowOrder, o.timer.isSome = true) ∧
      (let x := { ramping with
        state := .hold, causes := { noCauses with plantPause := true }, holdUsed := 119, holdTimer := ⟨true, 0⟩ }
       let s := alone (fill x)
       s.ctl.calm ∧ x.holdTimer.running = true ∧ s.ctl.store.settings.ramp.holdLimit ≤ x.holdUsed + 1) := by
  refine ⟨by decide +kernel, by decide +kernel, by decide +kernel, ⟨by decide +kernel, _, rfl, by decide⟩, by decide +kernel⟩

theorem witness_reported_fill_enters_ending :
    (([{ restMeter with stopReport := some .money }, { restMeter with stopReport := some .mass },
        { restMeter with faultReport := true }] : List Meter).all fun m =>
      let s := alone { fill ramping with meters := station.meters.set 0 m }
      decide (s.ctl.calm ∧ (s.ctl.ctx 0).state = .ramping ∧ s.ctl.meter 0 = m)) = true ∧
      (let x := { checking .settle with measured := 19499 }
       let s := alone (fill x)
       s.ctl.calm ∧ x.state = .leakCheck ∧ x.phase = some .settle ∧ x.leakTimer.isSome = true ∧
         x.measured + s.ctl.store.settings.ramp.leakBand < x.reference) := by decide +kernel

/-- Room for what an end hands: the order at the dispenser, the bank's CLOSE at the plant, FILL_ENDED at dispenser and
till; with the pacing timer stopped and running, and with the till's port DOWN. -/
theorem witness_ends_are_told :
    let down := (fill ramping).setPort tillPort { (fill ramping).port tillPort with link := .down }
    let paced := { fill ramping with ring := { (fill ramping).ring with pacing := some 100 } }
    (([fill ramping, down, paced] : List Controller).all fun c =>
      decide (c.calm ∧ c.room plantPort ∧ c.roomFor (portOfNozzle 0) 1 ∧ c.roomFor tillPort 2)) = true ∧
      ((fill ramping).ring.pacing = none ∧ ((fill ramping).port tillPort).link = .up) ∧
      (down.port tillPort).link = .down ∧ paced.ring.pacing.isSome = true := by decide +kernel

/-- R99, R110, R41: a CANCEL of a fill in RAMPING: the answer, the FLOW CLOSE and the BANK_VALVE CLOSE, octet by octet. -/
theorem test_cancel_hands_its_orders :
    let c := (after (exec (.cancel 1 9 1) (holding (fill ramping) tillPort ⟨0x21, 9, [1]⟩))).ctl
    (c.port tillPort).line = some ⟨0xA1, 9, [0x00, 1, 0x08, 0, 0, 0, 1]⟩ ∧
      (c.port 2).line = some ⟨0x52, 0, [2, 1]⟩ ∧ (c.port plantPort).line = some ⟨0x50, 0, [1, 1, 2, 1, 0, 0, 0]⟩ := by
  decide +kernel

/-- The context of a fill in AUTHORISED whose connect wait is over, and of one in WAIT_RESOURCES whose wait is. -/
def expiring : Context :=
  { restContext .lp with state := .authorised, auth := some paid, connectWait := some 0 }

def awaiting : Context :=
  { restContext .lp with
    state := .waitResources, auth := some paid, connected := true, join := some 1, resourceWait := some 0 }

theorem witness_fill_is_closed_at_expiry :
    (([(expiring, .authorised), (awaiting, .waitResources)] : List (Context × NozzleState)).all fun k =>
      let s := alone (fill k.1)
      decide (s.ctl.calm ∧ s.ctl.hasFill 0 paid opened limited ∧ (s.ctl.ctx 0).state = k.2)) = true ∧
      expiring.connectWait.isSome = true ∧ awaiting.resourceWait.isSome = true := by decide +kernel

theorem witness_fill_is_closed_without_flow :
    (([(expiring, tillPort, ⟨0x21, 1, [1]⟩), (awaiting, tillPort, ⟨0x21, 1, [1]⟩), (awaiting, 2, ⟨0x3A, 1, []⟩),
        (awaiting, 2, ⟨0x39, 1, []⟩)] : List (Context × PortId × Telegram)).all fun k =>
      let s := holding (fill k.1) k.2.1 k.2.2
      decide (s.ctl.calm ∧ s.ctl.hasFill 0 paid opened limited ∧ s.ctl.asked k.2.1 k.2.2 [])) = true ∧
      portOfNozzle 0 = 2 := by decide +kernel

theorem witness_leak_check_goes_on :
    let width := { checking .pulse with flow := .opened, wanted := .opened }
    let opening := { checking .pulse with wanted := .opened, flowOrder := some ⟨.opened, 5, 1, some 2000⟩ }
    let closing := { checking .closing with flow := .opened, flowOrder := some ⟨.closed, 5, 1, some 2000⟩ }
    (let s := alone (fill (checking .delay))
     s.ctl.atRest ∧ s.ctl.room (portOfNozzle 0) ∧ (s.ctl.ctx 0).flowBank = some ⟨0, .low, 1⟩ ∧
       (s.ctl.ctx 0).phase = some .delay ∧ (s.ctl.ctx 0).leakTimer.isSome = true ∧ (s.ctl.ctx 0).flow = .closed ∧
       (s.ctl.ctx 0).flowOrder = none) ∧
      ((alone (fill width)).ctl.atRest ∧ width.phase = some .pulse ∧ width.leakTimer.isSome = true ∧
        width.flow = .opened ∧ width.flowOrder = none) ∧
      (let s := holding (fill opening) 2 ⟨0x42, 5, [1, 1]⟩
       s.ctl.atRest ∧ s.ctl.told (portOfNozzle 0) ⟨0x42, 5, [1, 1]⟩ [] ∧ opening.state = .leakCheck ∧
         opening.wanted = .opened ∧ opening.phase = some .pulse) ∧
      (let s := holding (fill closing) 2 ⟨0x42, 5, [1, 2]⟩
       s.ctl.atRest ∧ s.ctl.told (portOfNozzle 0) ⟨0x42, 5, [1, 2]⟩ [] ∧ closing.state = .leakCheck ∧
         closing.wanted = .closed ∧ closing.phase = some .closing) ∧
      { checking .settle with sensitive := .left 0 }.sensitive = .left 0 := by decide +kernel

/-- With a permitted entry (T40, judged by its P_end of 43,000 kPa) and with none (class NONE, judged by that of the
coldest), the pause timer stopped and running; 1,001 kPa below that end, and 1,000. -/
theorem witness_ramp_starts :
    let ends := fun (p : Nat) (t : Timer) (warm : Bool) =>
      let c := fill { checking .settle with measured := p }
      { c with pauseTimer := t, thermal := if warm then station.thermal else c.thermal }
    let judged := fun c : Controller => c.store.settings.ramp.judgedEnd (c.ctx 0).vclass 3 c.thermal.precoolClass
    (([ends 19500 none false, ends 19500 (some 0) true, ends 41999 none true, ends 41999 (some 5000) false,
        ends 42000 none false, ends 42000 none true] : List Controller).all fun c =>
      decide ((alone c).ctl.calm ∧ (c.ctx 0).state = .leakCheck ∧ (c.ctx 0).phase = some .settle ∧
        (c.ctx 0).leakTimer.isSome = true ∧ (c.ctx 0).auth = some paid ∧ (c.ctx 0).band = some 3 ∧
        (c.ctx 0).reference ≤ (c.ctx 0).measured + c.store.settings.ramp.leakBand ∧ c.room (portOfNozzle 0))) = true ∧
      judged (ends 41999 none true) = 43000 ∧ judged (ends 42000 none false) = 43000 ∧
      ((ends 19500 none false).store.settings.ramp.permitted .lp 3 .t40).isSome = true ∧
      (ends 19500 none true).thermal.precoolClass = .noClass := by decide +kernel

/-- Below the lag limit, and at it. -/
theorem witness_ramp_step :
    let x := { ramping with measured := 17500, lagCount := 3 }
    (([ramping, x] : List Context).all fun y =>
      let s := alone (fill y)
      decide (s.ctl.atRest ∧ s.ctl.room (portOfNozzle 0) ∧ (s.ctl.ctx 0).state = .ramping ∧
        (s.ctl.ctx 0).entry = some ⟨150, 43000, .t40, 18⟩ ∧ (s.ctl.ctx 0).target = some 20000000 ∧
        (s.ctl.ctx 0).rampTimer.isSome = true ∧ (s.ctl.ctx 0).currentBank = some ⟨0, .low, 1⟩)) = true ∧
      x.measured + station.store.settings.ramp.switchBand < min (20000000 + 150 * 500) 43000000 / 1000 ∧
      station.store.settings.ramp.lagCount ≤ x.lagCount + 1 := by decide +kernel

theorem witness_fill_counts_its_seconds :
    let x := { ramping with
      state := .hold, causes := { noCauses with plantPause := true }, holdUsed := 118, holdTimer := ⟨true, 0⟩ }
    let s := alone (fill x)
    s.ctl.atRest ∧ s.ctl.room (portOfNozzle 0) ∧ (s.ctl.ctx 0).state = .hold ∧ (s.ctl.ctx 0).holdTimer.running = true ∧
      (s.ctl.ctx 0).holdUsed + 1 < s.ctl.store.settings.ramp.holdLimit ∧ s.ctl.hasFill 0 paid opened limited ∧
      (s.ctl.ctx 0).progressTimer.isSome = true := by decide +kernel

/-- With no pause running and with one, for times of 0, of 600 s and beyond. -/
theorem witness_fills_are_paused :
    let paused := { fill { ramping with state := .hold, causes := { noCauses with plantPause := true } } with
      pauseTimer := some 0 }
    let t := fun v : BitVec 16 => (⟨0x12, 1, octets 2 v.toNat⟩ : Telegram)
    (([(fill ramping, 0), (paused, 600), (paused, 0), (fill ramping, 0xFFFF)] : List (Controller × BitVec 16)).all fun k =>
      let s := holding k.1 0 (t k.2)
      decide (s.ctl.atRest ∧ s.ctl.asked 0 (t k.2) [] ∧ s.ctl.room (portOfNozzle 0))) = true ∧
      paused.pauseTimer.isSome = true ∧ (fill ramping).pauseTimer = none := by decide +kernel

end Sys2Proof.Tests
end

-- The queues of the ports: what every operation keeps of them.
section
/-! The invariant of R1, R14 and R15, in the form that holds in the midst of a step too (`PortRec.fitsWith`,
`Controller.fits`), and what the operations on a port, the Link Interface and the Allocator keep of it. -/

namespace Sys2Proof.Machine

/-! ## What an operation on a port keeps of its queues -/

/-- R1, R14, R15 in the midst of a step: a port's queues fit, where `kept` says whether an outbound place is kept for an
answer, which counts as taken. -/
def PortRec.fitsWith (kept : Bool) (r : PortRec) : Prop :=
  r.answerPlace = kept ∧ r.inbound.length ≤ 8 ∧ r.outbound.length + kept.toNat ≤ 12 ∧
    (r.outbound.map Telegram.priority).Pairwise (· ≥ ·) ∧ (r.orderHold ≠ [] → r.outbound.length + kept.toNat = 12)

/-- Every port's queues fit, the places kept for answers given port by port. -/
def Controller.fits (kept : PortId → Bool) (c : Controller) : Prop := ∀ p, (c.port p).fitsWith (kept p)

/-- Between steps no place is kept. -/
theorem PortRec.queuesFit_iff (r : PortRec) : r.queuesFit ↔ r.fitsWith false := by
  unfold PortRec.fitsWith
  constructor
  · rintro ⟨hin, hout, hsorted, hheld, hplace⟩
    exact ⟨hplace, hin, hout, hsorted, hheld⟩
  · rintro ⟨hplace, hin, hout, hsorted, hheld⟩
    exact ⟨hin, hout, hsorted, hheld, hplace⟩

theorem Controller.queuesFit_iff (c : Controller) : c.queuesFit ↔ c.fits (fun _ => false) :=
  forall_congr' fun p => (c.port p).queuesFit_iff

/-- A free place, as `fitsWith` counts it. -/
theorem PortRec.hasPlace_iff {kept : Bool} {r : PortRec} (h : r.fitsWith kept) :
    r.hasPlace = true ↔ r.outbound.length + kept.toNat < 12 := by
  obtain ⟨hplace, -⟩ := h
  cases kept <;> simp [PortRec.hasPlace, hplace]

/-- A telegram enters a queue that has a place for it. -/
theorem PortRec.fitsWith_enqueue {kept : Bool} {r : PortRec} (h : r.fitsWith kept) (t : Telegram)
    {q : List Telegram} (hq : q.Sublist r.outbound) (hlen : q.length + kept.toNat < 12)
    (hheld : r.orderHold ≠ [] → q.length + 1 = r.outbound.length) :
    ({ r with outbound := enqueue t q } : PortRec).fitsWith kept := by
  obtain ⟨hplace, hin, hout, hsorted, hfull⟩ := h
  refine ⟨hplace, hin, ?_, enqueue_sorted t q (hsorted.sublist (hq.map _)), fun ho => ?_⟩
  · simp only [enqueue_length]; omega
  · have := hfull ho
    have := hheld ho
    simp only [enqueue_length]; omega

theorem PortRec.fitsWith_placeOrder {kept : Bool} {r : PortRec} (h : r.fitsWith kept) (t : Telegram) :
    (r.placeOrder t).fitsWith kept := by
  have hp := PortRec.hasPlace_iff h
  obtain ⟨hplace, hin, hout, hsorted, hfull⟩ := id h
  rcases r.placeOrder_cases t with ⟨hh, e⟩ | ⟨hh, hf, e⟩ | ⟨hh, hf, ⟨u, hu, -⟩, e⟩ | ⟨hh, hf, -, e⟩ <;> rw [e]
  case inl => exact ⟨hplace, hin, hout, hsorted, fun _ => hfull hh⟩
  case inr.inl => exact PortRec.fitsWith_enqueue h t (List.Sublist.refl _) (hp.1 hf) (fun ho => absurd hh ho)
  case inr.inr.inl =>
    have hne : r.outbound ≠ [] := fun h0 => by simp [h0] at hu
    have := List.length_pos_of_ne_nil hne
    refine PortRec.fitsWith_enqueue h t (List.dropLast_sublist _) ?_ (fun ho => absurd hh ho)
    simp only [List.length_dropLast]; omega
  case inr.inr.inr =>
    have hn : ¬ r.outbound.length + kept.toNat < 12 := fun hl => by simp [hp.2 hl] at hf
    exact ⟨hplace, hin, hout, hsorted, fun _ => by dsimp only; omega⟩

theorem PortRec.fitsWith_placeNotice {kept : Bool} {r : PortRec} (h : r.fitsWith kept) (t : Telegram) :
    (r.placeNotice t).1.fitsWith kept := by
  have hp := PortRec.hasPlace_iff h
  rcases r.placeNotice_cases t with ⟨hf, hh, e⟩ | ⟨-, -, hany, e⟩ | ⟨-, -, e⟩ <;> rw [e]
  case inl => exact PortRec.fitsWith_enqueue h t (List.Sublist.refl _) (hp.1 hf) (fun ho => absurd hh ho)
  case inr.inl =>
    have hlen := dropOldestProgress_length _ hany
    have hout := h.2.2.1
    exact PortRec.fitsWith_enqueue h t (dropOldestProgress_sublist _) (by omega) (fun _ => hlen)
  case inr.inr => exact h

/-- The answer takes the place kept for it. -/
theorem PortRec.fitsWith_placeAnswer {r : PortRec} (h : r.fitsWith true) (t : Telegram) :
    (r.placeAnswer t).fitsWith false := by
  obtain ⟨-, hin, hout, hsorted, hfull⟩ := h
  simp only [Bool.toNat_true] at hout hfull
  rcases r.placeAnswer_cases t with ⟨-, e⟩ | ⟨hl, e⟩ <;> rw [e]
  · exact ⟨rfl, hin, by simpa using hout, enqueue_sorted t _ hsorted, by simpa using hfull⟩
  · omega

/-- R14: the line takes the head, and the oldest order held its place. -/
theorem PortRec.fitsWith_pump {kept : Bool} {r : PortRec} (h : r.fitsWith kept) : r.pump.fitsWith kept := by
  obtain ⟨hplace, hin, hout, hsorted, hfull⟩ := id h
  rcases r.pump_cases with ⟨e, -⟩ | ⟨t, q, -, hq, ⟨hh, e⟩ | ⟨o, held, hh, e⟩⟩ <;> rw [e]
  · exact h
  · rw [hq] at hout hsorted
    exact ⟨hplace, hin, by simp only [List.length_cons] at hout; dsimp only; omega, (List.pairwise_cons.1 hsorted).2,
      fun ho => absurd hh ho⟩
  · rw [hq] at hout hsorted hfull
    exact ⟨hplace, hin, by simpa using hout, enqueue_sorted o _ (List.pairwise_cons.1 hsorted).2,
      fun _ => by simpa using hfull (by simp [hh])⟩

/-- R9: a telegram offered to the inbound queue. -/
theorem PortRec.fitsWith_offer {kept : Bool} {r : PortRec} (h : r.fitsWith kept) (t : Telegram) :
    (r.offer t).fitsWith kept := by
  have hp := PortRec.hasPlace_iff h
  obtain ⟨hplace, hin, hout, hsorted, hfull⟩ := id h
  unfold PortRec.offer
  split
  · exact ⟨hplace, by simp only [List.length_append, List.length_singleton]; omega, hout, hsorted, hfull⟩
  · split
    · unfold PortRec.placeBusy
      split
      · rename_i hf
        have := hp.1 hf
        exact PortRec.fitsWith_enqueue h _ (List.Sublist.refl _) this (fun ho => by have := hfull ho; omega)
      · exact h
    · exact h

theorem PortRec.fitsWith_arrive {kept : Bool} {r : PortRec} (h : r.fitsWith kept) (t : Telegram) :
    (r.arrive t).fitsWith kept := by
  unfold PortRec.arrive
  split
  · split
    · exact PortRec.fitsWith_offer h t
    · exact h
  · exact PortRec.fitsWith_offer (r := { r with linkTimer := some linkTime }) h t

/-- R3: an octet changes the assembly and its gap timer alone, before the telegram it completes arrives. -/
theorem PortRec.takeOctet_frame (r : PortRec) (o : Octet) :
    (r.takeOctet o).1 =
      { r with assembly := (r.takeOctet o).1.assembly, gapTimer := (r.takeOctet o).1.gapTimer } := by
  unfold PortRec.takeOctet PortRec.join PortRec.dropAssembly
  split <;> split <;> rfl

theorem PortRec.fitsWith_receive {kept : Bool} {r : PortRec} (h : r.fitsWith kept) (o : Octet) :
    (r.receive o).fitsWith kept := by
  have ht : (r.takeOctet o).1.fitsWith kept := by rw [r.takeOctet_frame o]; exact h
  unfold PortRec.receive
  dsimp only
  split
  · split
    · exact PortRec.fitsWith_arrive ht _
    · exact ht
  · exact ht

theorem PortRec.fitsWith_receiveAll {kept : Bool} (l : List Octet) :
    ∀ {r : PortRec}, r.fitsWith kept → (l.foldl PortRec.receive r).fitsWith kept := by
  induction l with
  | nil => exact id
  | cons o l ih => exact fun h => ih (PortRec.fitsWith_receive h o)

theorem PortRec.fitsWith_goDown {kept : Bool} {r : PortRec} (h : r.fitsWith kept) : r.goDown.fitsWith kept := by
  refine ⟨h.1, Nat.zero_le _, ?_, List.Pairwise.nil, fun ho => absurd rfl ho⟩
  cases kept <;> simp [PortRec.goDown]

/-- R1: a port record after a start. -/
theorem restPort_fits (f : ServiceFlag) : (restPort f).fitsWith false :=
  ⟨rfl, Nat.zero_le _, Nat.zero_le _, List.Pairwise.nil, fun ho => absurd rfl ho⟩

/-! ## What changes no port -/

namespace Controller

section Fits

variable {kept : PortId → Bool} {c : Controller}

/-- Only the ports matter. -/
theorem fits_congr {d : Controller} (h : d.ports = c.ports) : d.fits kept ↔ c.fits kept := by
  simp only [fits, port, h]

@[simp] theorem fits_mk {a₁ a₂ a₃ a₄ a₅ a₆ a₇ a₈ a₉ a₁₀ a₁₁ a₁₂ a₁₃ a₁₄ a₁₅ a₁₆ a₁₇ a₁₈ a₁₉} :
    (Controller.mk a₁ a₂ a₃ a₄ c.ports a₅ a₆ a₇ a₈ a₉ a₁₀ a₁₁ a₁₂ a₁₃ a₁₄ a₁₅ a₁₆ a₁₇ a₁₈ a₁₉).fits kept ↔
      c.fits kept := fits_congr rfl

@[simp] theorem updCtx_fits {n : Nozzle} {f : Context → Context} : (c.updCtx n f).fits kept ↔ c.fits kept :=
  fits_congr rfl

@[simp] theorem setCtx_fits {n : Nozzle} {x : Context} : (c.setCtx n x).fits kept ↔ c.fits kept := fits_congr rfl

@[simp] theorem updBank_fits {b : BankId} {f : BankRec → BankRec} : (c.updBank b f).fits kept ↔ c.fits kept :=
  fits_congr rfl

@[simp] theorem updMeter_fits {n : Nozzle} {f : Meter → Meter} : (c.updMeter n f).fits kept ↔ c.fits kept :=
  fits_congr rfl

@[simp] theorem updSched_fits {f : Scheduler → Scheduler} : (c.updSched f).fits kept ↔ c.fits kept := fits_congr rfl

@[simp] theorem setParked_fits {n : Nozzle} {k : Option BankClaim} : (c.setParked n k).fits kept ↔ c.fits kept :=
  fits_congr rfl

@[simp] theorem updRecord_fits {seq : Nat} {f : Record → Record} : (c.updRecord seq f).fits kept ↔ c.fits kept :=
  fits_congr rfl

@[simp] theorem updRecordOf_fits {n : Nozzle} {f : Record → Record} : (c.updRecordOf n f).fits kept ↔ c.fits kept := by
  unfold updRecordOf
  split <;> simp

/-! ## What the Link Interface keeps of the ports' queues -/

theorem setPort_fits {p : PortId} {r : PortRec} (h : c.fits kept) (hr : r.fitsWith (kept p)) :
    (c.setPort p r).fits kept := by
  intro q
  by_cases hq : q = p
  · subst hq; simpa using hr
  · rw [c.port_setPort_ne r hq]; exact h q

/-- R8, R15, R16: an order handed. -/
@[simp] theorem handOrder_fits {p : PortId} {kind : Octet} {body : List Octet} (h : c.fits kept) :
    (c.handOrder p kind body).1.fits kept := by
  have hn : ({ c.port p with tagCounter := (c.port p).tagCounter + 1 } : PortRec).fitsWith (kept p) := h p
  obtain ⟨-, ⟨-, e⟩ | ⟨-, e⟩⟩ := c.handOrder_cases p kind body <;> rw [e]
  · exact setPort_fits h (PortRec.fitsWith_placeOrder hn _)
  · exact setPort_fits h hn

/-- R8, R15: a notice handed. -/
@[simp] theorem handNotice_fits {p : PortId} {kind : Octet} {body : List Octet} (h : c.fits kept) :
    (c.handNotice p kind body).1.fits kept := by
  rcases c.handNotice_cases p kind body with ⟨-, e⟩ | ⟨-, e⟩ <;> rw [e]
  · exact setPort_fits h (PortRec.fitsWith_placeNotice (h p) _)
  · exact h

@[simp] theorem notice_fits {p : PortId} {kind : Octet} {body : List Octet} (h : c.fits kept) :
    (c.notice p kind body).fits kept := handNotice_fits h

/-! ## What the Allocator keeps of them (chapters 3 and 4) -/

@[simp] theorem handValve_fits {b : BankId} {route : Holder} {action : Valve} (h : c.fits kept) :
    (c.handValve b route action).fits kept := by
  simp [handValve, h]

@[simp] theorem grantBank_fits {b : BankId} {who : Holder} (h : c.fits kept) :
    (c.grantBank b who).fits kept := by
  simp [grantBank, h]

@[simp] theorem grantBankToNozzle_fits {b : BankId} {n : Nozzle} (h : c.fits kept) :
    (c.grantBankToNozzle b n).ctl.fits kept := grantBank_fits h

@[simp] theorem openConfirmed_fits {b : BankId} {route : Holder} (h : c.fits kept) :
    (c.openConfirmed b route).ctl.fits kept := by
  unfold openConfirmed
  split <;> simp [h]

@[simp] theorem openTimedOut_fits {b : BankId} {route : Holder} (h : c.fits kept) :
    (c.openTimedOut b route).ctl.fits kept := by
  simp [openTimedOut, h]

@[simp] theorem releaseBank_fits {b : BankId} {who : Holder} (h : c.fits kept) :
    (c.releaseBank b who).fits kept := by
  unfold releaseBank
  dsimp only
  split
  · exact h
  · split <;> split <;> simp [h]

@[simp] theorem closeConfirmed_fits {b : BankId} (h : c.fits kept) : (c.closeConfirmed b).ctl.fits kept := by
  unfold closeConfirmed
  dsimp only
  split
  · simp [h]
  · split <;> simp [h]

@[simp] theorem closeTimedOut_fits {b : BankId} {route : Holder} (h : c.fits kept) :
    (c.closeTimedOut b route).ctl.fits kept := by
  simp [closeTimedOut, h]

@[simp] theorem isolateBank_fits {b : BankId} (h : c.fits kept) : (c.isolateBank b).ctl.fits kept := by
  unfold isolateBank
  dsimp only
  split <;> simp [h]

@[simp] theorem valveTimedOut_fits {b : BankId} {action : Valve} (h : c.fits kept) :
    (c.valveTimedOut b action).ctl.fits kept := by
  unfold valveTimedOut
  split
  · split
    · cases action <;> simp [h]
    · exact h
  · exact h

@[simp] theorem takeValveConfirm_fits {tag bank generation state : Octet} (h : c.fits kept) :
    (c.takeValveConfirm tag bank generation state).ctl.fits kept := by
  unfold takeValveConfirm
  split
  · exact h
  · split
    · exact h
    · split
      · split <;> simp [h]
      · exact h

@[simp] theorem judgeClaim_fits {b : BankId} (h : c.fits kept) : (c.judgeClaim b).1.fits kept := by
  unfold judgeClaim
  split <;> [skip; split <;> [skip; split]] <;> simp [h]

@[simp] theorem scanEntries_fits (l : List BankClaim) :
    ∀ {c : Controller}, c.fits kept → (c.scanEntries l).ctl.fits kept := by
  induction l with
  | nil => exact id
  | cons k l ih =>
    intro c h
    unfold scanEntries
    split <;> simp [ih, h]

@[simp] theorem judgePreemption_fits {n : Nozzle} (h : c.fits kept) : (c.judgePreemption n).ctl.fits kept := by
  unfold judgePreemption
  dsimp only
  split
  · exact h
  · split
    · exact h
    · split
      · exact h
      · split <;> simp [h]

end Fits

end Controller

end Sys2Proof.Machine
end

section
/-! What the operations of the Allocator, the Scheduler, the ring, the meters and the Sequencer keep of the ports'
queues: each keeps them because every order, notice and answer it hands is placed under R15. -/

namespace Sys2Proof.Machine
namespace Controller

section Fits

variable {kept : PortId → Bool} {c : Controller}

@[simp] theorem precoolRequest_fits {k : PrecoolClaim} : (c.precoolRequest k).ctl.fits kept ↔ c.fits kept := by
  unfold precoolRequest
  split <;> simp

@[simp] theorem precoolRelease_fits {n : Nozzle} : (c.precoolRelease n).ctl.fits kept ↔ c.fits kept := by
  unfold precoolRelease
  split <;> simp

@[simp] theorem placeParked_fits {n : Nozzle} {placed : Bool} :
    (c.placeParked n placed).ctl.fits kept ↔ c.fits kept := by
  unfold placeParked
  split <;> simp

@[simp] theorem releaseCompressor_fits : c.releaseCompressor.ctl.fits kept ↔ c.fits kept := by
  unfold releaseCompressor
  split <;> simp

@[simp] theorem bankRequest_fits {k : BankClaim} : (c.bankRequest k).ctl.fits kept ↔ c.fits kept := by
  unfold bankRequest
  split <;> [skip; split <;> [skip; split]] <;> simp

@[simp] theorem shedNozzles_fits (l : List Nozzle) :
    ∀ {c : Controller}, (c.shedNozzles l).ctl.fits kept ↔ c.fits kept := by
  induction l with
  | nil => exact Iff.rfl
  | cons n l ih =>
    intro c
    unfold shedNozzles
    split <;> simp [ih, shedNozzle]

@[simp] theorem shed_fits : c.shed.ctl.fits kept ↔ c.fits kept := by
  unfold shed
  split <;> [skip; (dsimp only; split)] <;> simp

@[simp] theorem recomputeCapacity_fits : c.recomputeCapacity.ctl.fits kept ↔ c.fits kept := by
  simp [recomputeCapacity]

@[simp] theorem takeDerate_fits {d : Nat} : (c.takeDerate d).ctl.fits kept ↔ c.fits kept := by
  simp [takeDerate]

/-! ## What the Scheduler keeps of them (chapter 5) -/

@[simp] theorem handRun_fits {action : RunAction} {b : Option BankId} (h : c.fits kept) :
    (c.handRun action b).fits kept := by
  simp [handRun, h]

@[simp] theorem callStop_fits {b : Option BankId} (h : c.fits kept) : (c.callStop b).fits kept := by
  unfold callStop
  split <;> [skip; split] <;> simp [h]

@[simp] theorem actOnAnswer_fits {b : BankId} {answer : ClaimAnswer} (h : c.fits kept) :
    (c.actOnAnswer b answer).ctl.fits kept := by
  cases answer <;> simp [actOnAnswer, claimGranted, h]

@[simp] theorem startAttempt_fits (h : c.fits kept) : c.startAttempt.ctl.fits kept := by
  unfold startAttempt
  dsimp only
  split <;> [skip; split <;> [skip; split]] <;> simp [h]

@[simp] theorem withdrawClaim_fits : c.withdrawClaim.fits kept ↔ c.fits kept := by
  unfold withdrawClaim
  split <;> simp

@[simp] theorem endPass_fits {placed : Bool} (h : c.fits kept) : (c.endPass placed).ctl.fits kept := by
  have judged : ∀ b, (c.judgeClaim b).1.fits kept := fun b => judgeClaim_fits h
  unfold endPass
  dsimp only
  split <;> split <;> [split; skip; split; skip] <;> simp [h, judged]

@[simp] theorem grantPass_fits {placed : Bool} (h : c.fits kept) : (c.grantPass placed).ctl.fits kept := by
  unfold grantPass grantHead
  split
  · rename_i e he
    split at he
    · split at he <;> simp only [Option.some.injEq, reduceCtorEq] at he
      subst he
      simp [h]
    · cases he
  · simp [h]

@[simp] theorem goFaulted_fits {why : FaultReason} {b : Option BankId} (h : c.fits kept) :
    (c.goFaulted why b).fits kept := by
  simp [goFaulted, h]

@[simp] theorem endRefill_fits {why : RefillEnd} (h : c.fits kept) : (c.endRefill why).ctl.fits kept := by
  unfold endRefill
  simp only [Eff.tell_ctl, Eff.change_ctl, updSched_fits]
  split
  · simp [h]
  · split <;> [split; skip] <;> simp [h]

@[simp] theorem leaveQueue_fits {b : BankId} : (c.leaveQueue b).ctl.fits kept ↔ c.fits kept := by
  unfold leaveQueue
  dsimp only
  split <;> simp

@[simp] theorem judgeQueue_fits {b : BankId} (h : c.fits kept) : (c.judgeQueue b).ctl.fits kept := by
  unfold judgeQueue
  dsimp only
  split
  · exact h
  · split
    · simp only [Eff.andThen_ctl]
      split <;> simp [h]
    · dsimp only
      split <;> simp [h]

@[simp] theorem toldIsolated_fits {b : BankId} (h : c.fits kept) : (c.toldIsolated b).ctl.fits kept := by
  unfold toldIsolated
  simp only [Eff.andThen_ctl]
  split
  · split <;> [skip; split] <;> simp [h]
  · simp [h]

@[simp] theorem compressorReleased_fits {b : BankId} : (c.compressorReleased b).ctl.fits kept ↔ c.fits kept := by
  unfold compressorReleased
  split <;> [split; skip] <;> simp

@[simp] theorem allocatorEndsRefill_fits {why : RefillEnd} (h : c.fits kept) :
    (c.allocatorEndsRefill why).ctl.fits kept := by
  unfold allocatorEndsRefill
  split <;> simp [h]

@[simp] theorem judgeRunning_fits : c.judgeRunning.fits kept ↔ c.fits kept := by
  unfold judgeRunning
  split <;> simp

@[simp] theorem compressorValveOpened_fits : c.compressorValveOpened.fits kept ↔ c.fits kept := by
  unfold compressorValveOpened
  split <;> simp

@[simp] theorem compressorValveFailed_fits {b : BankId} (h : c.fits kept) :
    (c.compressorValveFailed b).ctl.fits kept := by
  simp [compressorValveFailed, h]

@[simp] theorem runConfirmed_fits {o : RunOrder} (h : c.fits kept) : (c.runConfirmed o).ctl.fits kept := by
  unfold runConfirmed
  dsimp only
  split
  · split <;> [skip; split] <;> simp [h]
  · split <;> simp [h]

@[simp] theorem takeRunConfirm_fits {tag state : Octet} (h : c.fits kept) :
    (c.takeRunConfirm tag state).ctl.fits kept := by
  unfold takeRunConfirm
  split <;> [split; skip] <;> simp [h]

@[simp] theorem startTimedOut_fits {o : RunOrder} (h : c.fits kept) : (c.startTimedOut o).ctl.fits kept := by
  unfold startTimedOut
  simp only [Eff.change_ctl]
  refine goFaulted_fits (callStop_fits ?_)
  split <;> simp [h]

@[simp] theorem takeStartTimeout_fits (h : c.fits kept) : c.takeStartTimeout.ctl.fits kept := by
  unfold takeStartTimeout
  split <;> [split; skip] <;> simp [h]

@[simp] theorem takeStopTimeout_fits (h : c.fits kept) : c.takeStopTimeout.fits kept := by
  unfold takeStopTimeout
  split <;> [split; skip] <;> simp [stopTimedOut, h]

@[simp] theorem judgeStarvation_fits {inlet : Nat} (h : c.fits kept) : (c.judgeStarvation inlet).ctl.fits kept := by
  unfold judgeStarvation
  split <;> split <;> simp [h]

@[simp] theorem takeCompressorSample_fits {inlet discharge : Nat} (h : c.fits kept) :
    (c.takeCompressorSample inlet discharge).ctl.fits kept := by
  unfold takeCompressorSample
  simp only [Eff.change_ctl]
  split <;> simp [h]

@[simp] theorem takeStall_fits (h : c.fits kept) : c.takeStall.ctl.fits kept := by
  unfold takeStall stall
  split
  · simp only [Eff.change_ctl]
    split <;> simp [h]
  · exact h

@[simp] theorem backoffExpired_fits : c.backoffExpired.ctl.fits kept ↔ c.fits kept := by
  unfold backoffExpired
  dsimp only
  split <;> simp

@[simp] theorem schedulerPlantLoss_fits (h : c.fits kept) : c.schedulerPlantLoss.ctl.fits kept := by
  unfold schedulerPlantLoss
  simp only [Eff.change_ctl]
  split <;> simp [h]

@[simp] theorem takeBanks_fits {moved : List BankId} : (c.takeBanks moved).ctl.fits kept ↔ c.fits kept := by
  unfold takeBanks
  dsimp only
  split <;> simp

/-! ## What the ring and the meters keep of them (chapters 9 and 10) -/

@[simp] theorem judgeNotice_fits (h : c.fits kept) : c.judgeNotice.fits kept := by
  unfold judgeNotice
  split <;> [skip; split <;> [skip; split]] <;> simp [h]

@[simp] theorem oweNotice_fits (h : c.fits kept) : c.oweNotice.fits kept := by
  simp [oweNotice, h]

@[simp] theorem ringTillUp_fits (h : c.fits kept) : c.ringTillUp.fits kept := by
  unfold ringTillUp
  split <;> simp [h]

@[simp] theorem pacingExpired_fits (h : c.fits kept) : c.pacingExpired.fits kept := by
  simp [pacingExpired, h]

@[simp] theorem acknowledge_fits {s : Nat} (h : c.fits kept) : (c.acknowledge s).fits kept := by
  unfold acknowledge
  dsimp only
  split <;> simp [h]

@[simp] theorem closeRecord_fits {n : Nozzle} (h : c.fits kept) : (c.closeRecord n).fits kept := by
  unfold closeRecord
  split <;> [skip; split] <;> simp [addToTotals, h]

@[simp] theorem meterSample_fits {n : Nozzle} {d : Nat} : (c.meterSample n d).fits kept ↔ c.fits kept := by
  unfold meterSample
  extract_lets g mass metered added
  have ha : added.fits kept ↔ c.fits kept := by simp [added]
  split <;> [split; skip] <;> simp [ha]

@[simp] theorem unexplainedFlow_fits {n : Nozzle} {d : Nat} {count : BitVec 16} (h : c.fits kept) :
    (c.unexplainedFlow n d count).fits kept := by
  unfold unexplainedFlow
  split <;> simp [h]

@[simp] theorem takeCount_fits {n : Nozzle} {count : BitVec 16} (h : c.fits kept) :
    (c.takeCount n count).fits kept := by
  unfold takeCount
  dsimp only
  split <;> [skip; split <;> [skip; split]] <;> simp [h]

@[simp] theorem compareTariff_fits : c.compareTariff.fits kept ↔ c.fits kept := by
  unfold compareTariff
  split <;> [split; skip] <;> simp

/-! ## What the Sequencer keeps of them (chapters 7 and 8) -/

@[simp] theorem driveFlow_fits {n : Nozzle} (h : c.fits kept) : (c.driveFlow n).fits kept := by
  unfold driveFlow
  dsimp only
  split <;> [skip; split] <;> simp [h]

@[simp] theorem orderVent_fits {n : Nozzle} (h : c.fits kept) : (c.orderVent n).fits kept := by
  simp [orderVent, h]

@[simp] theorem ventIfShut_fits {n : Nozzle} (h : c.fits kept) : (c.ventIfShut n).fits kept := by
  unfold ventIfShut
  dsimp only
  split <;> simp [h]

@[simp] theorem closeFill_fits {n : Nozzle} (h : c.fits kept) : (c.closeFill n).fits kept := by
  have hc : (c.closeRecord n).fits kept := closeRecord_fits h
  unfold closeFill noticeEnded
  split <;> simp [hc]

@[simp] theorem setReason_fits {n : Nozzle} {why : EndReason} : (c.setReason n why).fits kept ↔ c.fits kept := by
  simp [setReason]

@[simp] theorem closeWithoutFlow_fits {n : Nozzle} {why : EndReason} (h : c.fits kept) :
    (c.closeWithoutFlow n why).ctl.fits kept := by
  simp [closeWithoutFlow, h]

@[simp] theorem settleEnding_fits {n : Nozzle} (h : c.fits kept) : (c.settleEnding n).fits kept := by
  unfold settleEnding
  dsimp only
  split <;> simp [h]

@[simp] theorem beginEnding_fits {n : Nozzle} {why : EndReason} (h : c.fits kept) :
    (c.beginEnding n why).ctl.fits kept := by
  unfold beginEnding
  simp only [Eff.change_ctl]
  refine ventIfShut_fits (driveFlow_fits ?_)
  split <;> simp [h]

@[simp] theorem endIfFlowing_fits {n : Nozzle} {why : EndReason} (h : c.fits kept) :
    (c.endIfFlowing n why).ctl.fits kept := by
  unfold endIfFlowing
  split <;> simp [h]

@[simp] theorem dropBank_fits {n : Nozzle} {pressure : Option Nat} :
    (c.dropBank n pressure).fits kept ↔ c.fits kept := by
  simp [dropBank]

@[simp] theorem forgetBank_fits {n : Nozzle} : (c.forgetBank n).fits kept ↔ c.fits kept := by
  simp [forgetBank]

@[simp] theorem switchOn_fits {n : Nozzle} (h : c.fits kept) : (c.switchOn n).ctl.fits kept := by
  unfold switchOn
  split <;> simp [h]

@[simp] theorem openSegment_fits {n : Nozzle} {ref : BankRef} {pressure : Option Nat} :
    (c.openSegment n ref pressure).fits kept ↔ c.fits kept := by
  simp [openSegment]

@[simp] theorem addCause_fits {n : Nozzle} {k : HoldCause} (h : c.fits kept) : (c.addCause n k).fits kept := by
  unfold addCause
  split <;> simp [h]

@[simp] theorem removeCause_fits {n : Nozzle} {k : HoldCause} : (c.removeCause n k).fits kept ↔ c.fits kept := by
  simp [removeCause_eq]

@[simp] theorem enterWait_fits {n : Nozzle} : (c.enterWait n).ctl.fits kept ↔ c.fits kept := by
  unfold enterWait takeJoin
  dsimp only
  split <;> simp [renumber]

@[simp] theorem precoolGranted_fits {n : Nozzle} : (c.precoolGranted n).ctl.fits kept ↔ c.fits kept := by
  unfold precoolGranted
  split <;> [split; skip; skip; skip; skip; skip; skip; skip; skip] <;> simp

@[simp] theorem nozzleShed_fits {n : Nozzle} (h : c.fits kept) : (c.nozzleShed n).ctl.fits kept := by
  unfold nozzleShed
  split <;> simp [h]

@[simp] theorem bankGranted_fits {n : Nozzle} {ref : BankRef} {pressure : Option Nat} (h : c.fits kept) :
    (c.bankGranted n ref pressure).ctl.fits kept := by
  unfold bankGranted
  dsimp only
  split <;> [skip; split] <;> simp [h]

@[simp] theorem startPulse_fits {n : Nozzle} (h : c.fits kept) : (c.startPulse n).fits kept := by
  simp [startPulse, h]

@[simp] theorem valveOpened_fits {n : Nozzle} {b : BankId} (h : c.fits kept) : (c.valveOpened n b).fits kept := by
  unfold valveOpened
  dsimp only
  split
  · exact h
  · split <;> split <;> simp [h]

@[simp] theorem valveFailed_fits {n : Nozzle} {b : BankId} (h : c.fits kept) :
    (c.valveFailed n b).ctl.fits kept := by
  unfold valveFailed
  dsimp only
  split <;> simp [h]

@[simp] theorem bankSettled_fits {n : Nozzle} (h : c.fits kept) : (c.bankSettled n).fits kept := by
  simp [bankSettled, h]

@[simp] theorem bankReleased_fits {n : Nozzle} {b : BankId} {pressure : Option Nat} (h : c.fits kept) :
    (c.bankReleased n b pressure).ctl.fits kept := by
  unfold bankReleased
  dsimp only
  split
  · split <;> [skip; split; skip] <;> simp [h]
  · simp [clearOutstanding, h]

@[simp] theorem bankLost_fits {n : Nozzle} {b : BankId} {pressure : Option Nat} (h : c.fits kept) :
    (c.bankLost n b pressure).ctl.fits kept := by
  unfold bankLost
  split
  · split <;> simp [h]
  · simp [clearOutstanding, h]

@[simp] theorem storageLow_fits {n : Nozzle} (h : c.fits kept) : (c.storageLow n).ctl.fits kept := by
  unfold storageLow
  split <;> simp [h]

@[simp] theorem authorise_fits {n : Nozzle} {a : Authorisation} : (c.authorise n a).ctl.fits kept ↔ c.fits kept := by
  unfold authorise
  dsimp only
  split <;> simp

@[simp] theorem nozzleConnect_fits {n : Nozzle} {v : VehicleClass} {data : Bool} (h : c.fits kept) :
    (c.nozzleConnect n v data).ctl.fits kept := by
  unfold nozzleConnect
  split <;> [skip; (dsimp only; split); skip; skip; skip; skip; skip; skip; skip] <;> simp [h]

@[simp] theorem takeConnect_fits {n : Nozzle} {v data : Octet} (h : c.fits kept) :
    (c.takeConnect n v data).ctl.fits kept := by
  unfold takeConnect
  split <;> simp [h]

@[simp] theorem connectWaitExpired_fits {n : Nozzle} (h : c.fits kept) : (c.connectWaitExpired n).ctl.fits kept := by
  unfold connectWaitExpired
  split <;> simp [h]

@[simp] theorem resourceWaitExpired_fits {n : Nozzle} (h : c.fits kept) :
    (c.resourceWaitExpired n).ctl.fits kept := by
  unfold resourceWaitExpired
  split <;> simp [h]

@[simp] theorem cancel_fits {n : Nozzle} (h : c.fits kept) : (c.cancel n).ctl.fits kept := by
  unfold cancel
  split <;> simp [h]

@[simp] theorem nozzleHang_fits {n : Nozzle} (h : c.fits kept) : (c.nozzleHang n).ctl.fits kept := by
  unfold nozzleHang
  dsimp only
  split <;> simp [h]

@[simp] theorem stopPress_fits {n : Nozzle} (h : c.fits kept) : (c.stopPress n).ctl.fits kept := by
  unfold stopPress
  split <;> simp [h]

@[simp] theorem startWindow_fits {n : Nozzle} {reference restarts : Nat} :
    (c.startWindow n reference restarts).fits kept ↔ c.fits kept := by
  simp [startWindow]

@[simp] theorem flowConfirmed_fits {n : Nozzle} {action : Valve} (h : c.fits kept) :
    (c.flowConfirmed n action).fits kept := by
  unfold flowConfirmed
  dsimp only
  split <;> simp [h]

@[simp] theorem takeFlowConfirm_fits {n : Nozzle} {tag generation state : Octet} (h : c.fits kept) :
    (c.takeFlowConfirm n tag generation state).fits kept := by
  unfold takeFlowConfirm
  split <;> [split; skip] <;> simp [h]

@[simp] theorem flowTimedOut_fits {n : Nozzle} (h : c.fits kept) : (c.flowTimedOut n).ctl.fits kept := by
  unfold flowTimedOut
  dsimp only
  split <;> simp [h]

@[simp] theorem ventSettled_fits {n : Nozzle} (h : c.fits kept) : (c.ventSettled n).fits kept := by
  simp [ventSettled, h]

@[simp] theorem takeVentDone_fits {n : Nozzle} {tag : Octet} {count : BitVec 16} (h : c.fits kept) :
    (c.takeVentDone n tag count).fits kept := by
  unfold takeVentDone ventDone
  split <;> [split; skip] <;> simp [h]

@[simp] theorem ventTimedOut_fits {n : Nozzle} (h : c.fits kept) : (c.ventTimedOut n).fits kept := by
  simp [ventTimedOut, h]

@[simp] theorem pulseDelayExpired_fits {n : Nozzle} (h : c.fits kept) : (c.pulseDelayExpired n).fits kept := by
  unfold pulseDelayExpired
  split <;> simp [h]

@[simp] theorem pulseWidthExpired_fits {n : Nozzle} (h : c.fits kept) : (c.pulseWidthExpired n).fits kept := by
  unfold pulseWidthExpired
  split <;> simp [h]

@[simp] theorem sensitivePartEnded_fits {n : Nozzle} : (c.sensitivePartEnded n).fits kept ↔ c.fits kept := by
  simp [sensitivePartEnded]

@[simp] theorem judgeDisturbance_fits {n : Nozzle} (h : c.fits kept) : (c.judgeDisturbance n).ctl.fits kept := by
  unfold judgeDisturbance
  dsimp only
  split <;> [split; skip] <;> simp [h]

@[simp] theorem takeEntry_fits {n : Nozzle} {e : RampInUse} : (c.takeEntry n e).fits kept ↔ c.fits kept := by
  simp [takeEntry]

@[simp] theorem startRamp_fits {n : Nozzle} (h : c.fits kept) : (c.startRamp n).fits kept := by
  unfold startRamp
  dsimp only
  split <;> split <;> simp [h]

@[simp] theorem settleWindowEnded_fits {n : Nozzle} (h : c.fits kept) : (c.settleWindowEnded n).ctl.fits kept := by
  unfold settleWindowEnded
  dsimp only
  split <;> [skip; split <;> [skip; split]] <;> simp [h]

@[simp] theorem judgeSample_fits {n : Nozzle} (h : c.fits kept) : (c.judgeSample n).ctl.fits kept := by
  unfold judgeSample
  dsimp only
  split <;> [split; split; split; skip; skip; skip; skip; skip; skip] <;> simp [h]

@[simp] theorem takeStopReport_fits {n : Nozzle} (h : c.fits kept) : (c.takeStopReport n).ctl.fits kept := by
  unfold takeStopReport
  split <;> simp [h]

@[simp] theorem takeFaultReport_fits {n : Nozzle} (h : c.fits kept) : (c.takeFaultReport n).ctl.fits kept := by
  unfold takeFaultReport
  split <;> simp [h]

@[simp] theorem fieldSample_fits {n : Nozzle} {pressure : Nat} {gas : Int} {tank : Option Int} {flags : VehicleFlags}
    {count : BitVec 16} (h : c.fits kept) : (c.fieldSample n pressure gas tank flags count).ctl.fits kept := by
  have hd : ((c.updCtx n fun x => x.storeSample pressure gas tank flags).takeCount n count).fits kept := by simp [h]
  unfold fieldSample
  dsimp only
  split
  · split
    · exact judgeSample_fits (takeFaultReport_fits (takeStopReport_fits ((fits_congr rfl).2 hd)))
    · exact judgeSample_fits ((fits_congr rfl).2 hd)
  · exact judgeSample_fits hd

@[simp] theorem rampStep_fits {n : Nozzle} (h : c.fits kept) : (c.rampStep n).fits kept := by
  unfold rampStep beginSwitch
  dsimp only
  split
  · split <;> [split; skip] <;> simp [h]
  · exact h

@[simp] theorem holdPeriodExpired_fits {n : Nozzle} (h : c.fits kept) : (c.holdPeriodExpired n).ctl.fits kept := by
  unfold holdPeriodExpired
  dsimp only
  split <;> [split; skip] <;> simp [h]

@[simp] theorem progressExpired_fits {n : Nozzle} (h : c.fits kept) : (c.progressExpired n).fits kept := by
  unfold progressExpired
  split <;> simp [h]

/-- What every step of a walk over nozzles keeps, the walk keeps. -/
theorem foldl_fits {f : Controller → Nozzle → Controller} (hf : ∀ d n, d.fits kept → (f d n).fits kept)
    (l : List Nozzle) : ∀ {c : Controller}, c.fits kept → (l.foldl f c).fits kept := by
  induction l with
  | nil => exact id
  | cons n l ih => exact fun h => ih (hf _ n h)

@[simp] theorem takeClass_fits {new : PrecoolClass} {n : Nozzle} (h : c.fits kept) :
    (c.takeClass new n).fits kept := by
  unfold takeClass
  dsimp only
  split <;> [(split <;> [split; split; skip; skip]); skip] <;> simp [degrade, h]

@[simp] theorem classChanged_fits {new : PrecoolClass} (h : c.fits kept) : (c.classChanged new).fits kept :=
  foldl_fits (fun _ _ => takeClass_fits) _ h

@[simp] theorem endPause_fits (h : c.fits kept) : c.endPause.fits kept := by
  refine foldl_fits (fun d n hd => ?_) _ (by simpa using h)
  split <;> simp [hd]

@[simp] theorem pauseFills_fits {seconds : Nat} (h : c.fits kept) : (c.pauseFills seconds).fits kept := by
  unfold pauseFills
  dsimp only
  split <;> split
  · exact h
  · exact foldl_fits (fun _ _ => addCause_fits) _ (by simpa using h)
  · simp [h]
  · simpa using h

@[simp] theorem dispenserLost_fits {n : Nozzle} (h : c.fits kept) : (c.dispenserLost n).ctl.fits kept := by
  have hc : ∀ d : Controller, d.fits kept → (d.cutBank n).fits kept := fun d hd => by
    unfold cutBank
    split <;> simp [hd]
  unfold dispenserLost
  dsimp only
  split <;> [skip; skip; skip; skip; skip; split; split; split; split] <;> simp [h, hc]

@[simp] theorem plantLostFor_fits {n : Nozzle} (h : c.fits kept) : (c.plantLostFor n).ctl.fits kept := by
  unfold plantLostFor
  dsimp only
  split <;> simp [h]

@[simp] theorem plantLostForAll_fits (l : List Nozzle) :
    ∀ {c : Controller}, c.fits kept → (c.plantLostForAll l).ctl.fits kept := by
  induction l with
  | nil => exact id
  | cons n l ih => exact fun h => ih (plantLostFor_fits h)

@[simp] theorem sequencerPlantLoss_fits (h : c.fits kept) : c.sequencerPlantLoss.ctl.fits kept := by
  simp [sequencerPlantLoss, h]
end Fits

end Controller

end Sys2Proof.Machine
end

section
/-! What the events of a step, the requests and reports, and the starts keep of the ports' queues. -/

namespace Sys2Proof.Machine
namespace Controller

section Fits

variable {kept : PortId → Bool} {c : Controller}

/-! ## What the links, and the events of a step, keep of them (chapter 1 and section 0.2) -/

@[simp] theorem handLoss_fits {p : PortId} (h : c.fits kept) : (c.handLoss p).ctl.fits kept := by
  unfold handLoss
  split <;> [skip; split] <;> simp [h]

@[simp] theorem portDown_fits {p : PortId} (h : c.fits kept) : (c.portDown p).ctl.fits kept :=
  handLoss_fits (setPort_fits h (PortRec.fitsWith_goDown (h p)))

@[simp] theorem takeServiceFlag_fits {n : Nozzle} (h : c.fits kept) : (c.takeServiceFlag n).ctl.fits kept := by
  have hd : ∀ f, (c.setPort (portOfNozzle n) { c.port (portOfNozzle n) with service := f }).fits kept :=
    fun f => setPort_fits h (h (portOfNozzle n))
  unfold takeServiceFlag
  dsimp only
  split
  · exact hd _
  · exact portDown_fits (hd _)
  · exact setPort_fits (hd _) (PortRec.fitsWith_goDown (hd _ (portOfNozzle n)))

@[simp] theorem takeHandOver_fits {k : SettingKey} (h : c.fits kept) : (c.takeHandOver k).ctl.fits kept := by
  unfold takeHandOver
  split <;> simp [h]

@[simp] theorem goUp_fits {p : PortId} (h : c.fits kept) : (c.goUp p).ctl.fits kept := by
  unfold goUp
  split
  · exact h
  · exact setPort_fits h (h p)

/-- Whatever an event tells a block, the ports' queues stay within their bounds. -/
theorem handle_fits {e : Event} (h : c.fits kept) : (c.handle e).ctl.fits kept := by
  cases e <;> simp [handle, grantScan, takeBankSample, h]

theorem owe_fits {e : Eff} : e.owe.fits kept ↔ e.ctl.fits kept := fits_congr rfl

theorem settle_fits (h : c.fits kept) : c.settle.fits kept :=
  runOwed_induct (fun c => c.fits kept)
    (fun _ _ _ hc _ => owe_fits.2 (handle_fits ((fits_congr rfl).2 hc))) _ c h

theorem settleLines_fits (h : c.fits kept) : c.settleLines.fits kept := fun p => by
  rw [port_settleLines]
  exact PortRec.fitsWith_pump (h p)

/-! ## What requests and reports keep of them -/

@[simp] theorem took_fits {e : Event} (h : c.fits kept) : (c.took e).fits kept :=
  settle_fits ((fits_congr rfl).2 h)

@[simp] theorem refuse_fits {t : Telegram} {why : Result} : (c.refuse t why).eff.ctl.fits kept ↔ c.fits kept := by
  unfold refuse
  split <;> [(dsimp only; split); skip; skip] <;> simp

@[simp] theorem recordWrites_fits (l : List SettingKey) :
    ∀ {c : Controller}, (l.foldl recordWrite c).fits kept ↔ c.fits kept := fun {c} => by
  obtain ⟨count, banks, h⟩ := recordWrites_frame l c
  rw [h]
  simp

end Fits

/-- No place is kept for an answer: the ports between steps. -/
abbrev noneKept : PortId → Bool := fun _ => false

/-- The ports while the request at a port is carried out. -/
def keptAt (p : PortId) : PortId → Bool := fun q => decide (q = p)

variable {c : Controller}

theorem arrive_fits {p : PortId} {t : Telegram} (h : c.fits noneKept) : (c.arrive p t).fits noneKept :=
  setPort_fits h (PortRec.fitsWith_arrive (h p) t)

theorem toHead_fits {p : PortId} {t : Telegram} (h : c.fits noneKept) : (c.toHead p t).fits noneKept := by
  unfold toHead
  split
  · exact h
  · exact arrive_fits h

/-- A port whose head is taken. -/
theorem takeHead_fitsWith {kept : Bool} {r : PortRec} (h : r.fitsWith kept) : r.takeHead.fitsWith kept := by
  obtain ⟨hplace, hin, hout, hsorted, hfull⟩ := h
  exact ⟨hplace, by simp only [PortRec.takeHead, List.length_tail]; omega, hout, hsorted, hfull⟩

/-- R10 step 3: the place kept while a request is carried out is there for its answer. -/
theorem answerHead_fits {p : PortId} {t : Telegram} {carry : Controller → Carried} (h : c.fits noneKept)
    (hlen : (c.port p).outbound.length < 12) (hheld : (c.port p).orderHold = [])
    (hcarry : ∀ kept d, d.fits kept → (carry d).eff.ctl.fits kept) : (c.answerHead p t carry).ctl.fits noneKept := by
  have hd : (c.updPort p fun r => { r.takeHead with answerPlace := true }).fits (keptAt p) := by
    obtain ⟨hplace, hin, hout, hsorted, hfull⟩ := takeHead_fitsWith (h p)
    intro q
    by_cases hq : q = p
    · subst hq
      rw [port_updPort_self]
      exact ⟨by simp [keptAt], hin, by simpa [keptAt, PortRec.takeHead] using hlen, hsorted, fun ho => absurd hheld ho⟩
    · rw [c.port_updPort_ne _ hq]
      simpa [keptAt, hq] using h q
  have hdone : ∀ e : Controller, e.fits (keptAt p) → ∀ a, (e.updPort p fun r => r.placeAnswer a).fits noneKept := by
    intro e he a q
    by_cases hq : q = p
    · subst hq
      rw [port_updPort_self]
      exact PortRec.fitsWith_placeAnswer (by simpa [keptAt] using he q) a
    · rw [e.port_updPort_ne _ hq]
      simpa [keptAt, hq] using he q
  unfold answerHead
  simp only [Eff.change_ctl]
  refine hdone _ ?_ _
  split
  · exact hcarry _ _ hd
  · exact refuse_fits.2 hd

theorem serveRequest_fits {p : PortId} {t : Telegram} {carry : Controller → Carried} (h : c.fits noneKept)
    (hcarry : ∀ kept d, d.fits kept → (carry d).eff.ctl.fits kept) :
    (c.serveRequest p t carry).ctl.fits noneKept := by
  unfold serveRequest
  dsimp only
  split
  · split
    · rename_i hmay
      simp only [mayAnswer, Bool.and_eq_true, decide_eq_true_eq, List.isEmpty_iff] at hmay
      obtain ⟨-, ⟨hlen, hheld⟩, -⟩ := hmay
      exact answerHead_fits (toHead_fits h) hlen hheld hcarry
    · exact toHead_fits h
  · exact h

theorem serveReport_fits {p : PortId} {t : Telegram} {act : Controller → Eff} (h : c.fits noneKept)
    (hact : ∀ d, d.fits noneKept → (act d).ctl.fits noneKept) : (c.serveReport p t act).ctl.fits noneKept := by
  have hd : ∀ d : Controller, d.fits noneKept → (d.updPort p PortRec.takeHead).fits noneKept :=
    fun d hd => setPort_fits hd (takeHead_fitsWith (hd p))
  unfold serveReport takeHeadReport
  dsimp only
  split
  · split
    · split
      · exact hact _ (hd _ (toHead_fits h))
      · exact hd _ (toHead_fits h)
    · exact toHead_fits h
  · exact h

theorem forNozzle_fits {kept : PortId → Bool} {p : PortId} {f : Nozzle → Eff} (h : c.fits kept)
    (hf : ∀ n, (f n).ctl.fits kept) : (c.forNozzle p f).ctl.fits kept := by
  unfold forNozzle
  split
  · exact hf _
  · exact h

theorem ifRuns_fits {kept : PortId → Bool} {t : Timer} {e : Eff} (h : c.fits kept) (he : e.ctl.fits kept) :
    (c.ifRuns t e).ctl.fits kept := by
  unfold ifRuns
  split
  · exact he
  · exact h

/-! ## What a start leaves (section 2.6) -/

theorem ports_at_rest_fit {f : PortId → ServiceFlag} (h : c.ports = Vector.ofFn fun p => restPort (f p)) :
    c.fits noneKept := fun p => by
  simpa [port, h] using restPort_fits (f p)

theorem warmRestart_fits : c.warmRestart.fits noneKept := ports_at_rest_fit rfl

theorem coldStart_fits : c.coldStart.fits noneKept := ports_at_rest_fit rfl

theorem takeStart_fits {k : StartKind} : (c.takeStart k).fits noneKept := by
  cases k
  · exact warmRestart_fits
  · exact coldStart_fits

theorem transmissionEnded_fits {p : PortId} (h : c.fits noneKept) : (c.transmissionEnded p).fits noneKept := by
  have hfreed : (c.setPort p { c.port p with line := none }).fits noneKept := setPort_fits h (h p)
  unfold transmissionEnded
  dsimp only
  split
  · exact h
  · split
    · exact takeStart_fits
    · exact hfreed
  · exact hfreed

theorem linkTimedOut_fits {p : PortId} (h : c.fits noneKept) : (c.linkTimedOut p).ctl.fits noneKept := by
  unfold linkTimedOut
  split
  · split
    · exact takeStart_fits
    · exact portDown_fits h
  · exact h

/-- Timers are no part of the queues. -/
theorem mapTimers_fits {f : Nat → Option Nat} (h : c.fits noneKept) : (c.mapTimers f).fits noneKept := fun p => by
  simp only [port, mapTimers, Fin.getElem_fin, Vector.getElem_ofFn]
  exact h p

end Controller
end Sys2Proof.Machine
end

section
/-! Every command keeps the ports' queues, and leaves no line of a running controller idle before a telegram. -/

namespace Sys2Proof.Machine

open Controller

/-- What a command keeps: the queues fit, and no line of a running controller is left idle before a telegram. -/
def State.KeepsQueues (s : State) (o : Host.Outcome State Fault Refusal) : Prop :=
  ∀ t, o = .next t →
    (s.ctl.fits noneKept → t.ctl.fits noneKept) ∧
      ((s.ctl.running = true → s.ctl.linesServed) → t.ctl.running = true → t.ctl.linesServed)

/-- A change of the controller, taken by itself. -/
theorem State.keepsQueues_withCtl {s : State} {c : Controller} (hfits : s.ctl.fits noneKept → c.fits noneKept)
    (hlines : (s.ctl.running = true → s.ctl.linesServed) → c.running = true → c.linesServed) :
    s.KeepsQueues (.next (s.withCtl c)) := by
  rintro t e
  cases e
  exact ⟨hfits, hlines⟩

/-- A change that touches no port and starts nothing. -/
theorem State.keepsQueues_of_ports {s : State} {c : Controller} (hp : c.ports = s.ctl.ports)
    (hr : c.running = true → s.ctl.running = true) : s.KeepsQueues (.next (s.withCtl c)) := by
  refine State.keepsQueues_withCtl (fits_congr hp).2 fun hs hc p => ?_
  have := hs (hr hc) p
  simpa only [port, hp] using this

/-- A step of the running controller ends with its lines. -/
theorem Controller.perform_served (c : Controller) (f : Controller → Eff) (hr : (c.perform f).running = true) :
    (c.perform f).linesServed := by
  unfold perform at hr ⊢
  split
  · exact settleLines_served _
  · rename_i hc; rw [if_neg hc] at hr; exact absurd hr hc

/-- A step of the running controller keeps what its operation keeps. -/
theorem State.does_keepsQueues (s : State) {f : Controller → Eff}
    (hf : ∀ c, c.fits noneKept → (f c).ctl.fits noneKept) : s.KeepsQueues (s.does f) := by
  refine State.keepsQueues_withCtl (fun h => ?_) fun _ => s.ctl.perform_served f
  exact perform_induct (fun c => c.fits noneKept) f
    (fun _ _ _ hc _ => owe_fits.2 (handle_fits ((fits_congr rfl).2 hc))) (fun c hc => owe_fits.2 (hf c hc))
    (fun _ => settleLines_fits) _ h

theorem State.request_keepsQueues (s : State) (i : Instr) {carry : Controller → Telegram → Carried}
    (hcarry : ∀ kept d t, d.fits kept → (carry d t).eff.ctl.fits kept) : s.KeepsQueues (s.request i carry) := by
  unfold State.request
  split
  · exact s.does_keepsQueues fun c hc => serveRequest_fits hc fun kept d => hcarry kept d _
  · exact State.keepsQueues_of_ports (c := s.ctl) rfl id

theorem State.report_keepsQueues (s : State) (i : Instr) {act : Controller → PortId → Eff}
    (hact : ∀ d p, d.fits noneKept → (act d p).ctl.fits noneKept) : s.KeepsQueues (s.report i act) := by
  unfold State.report
  split
  · exact s.does_keepsQueues fun c hc => serveReport_fits hc fun d => hact d _
  · exact State.keepsQueues_of_ports (c := s.ctl) rfl id

/-- A request whose hand-overs wait. -/
theorem State.requestLater_keepsQueues (s : State) (i : Instr) {carry : Controller → Telegram → Carried}
    (hcarry : ∀ kept d t, d.fits kept → (carry d t).eff.ctl.fits kept) : s.KeepsQueues (s.requestLater i carry) := by
  unfold State.requestLater
  split
  · unfold performLater
    split
    · refine State.keepsQueues_withCtl (fun h => ?_) fun _ _ => settleLines_served _
      exact settleLines_fits (owe_fits.2 (serveRequest_fits (settle_fits h) fun kept d => hcarry kept d _))
    · exact State.keepsQueues_of_ports (c := s.ctl) rfl id
  · exact State.keepsQueues_of_ports (c := s.ctl) rfl id

/-- R20: a hand-over that waits is taken. -/
theorem State.takeOwed_keepsQueues (s : State) : s.KeepsQueues (.next (s.withCtl s.ctl.takeOwed)) := by
  unfold takeOwed
  split
  · split
    · exact State.keepsQueues_of_ports (c := s.ctl) rfl id
    · refine State.keepsQueues_withCtl (fun h => ?_) fun _ _ => ?_
      · exact (fits_congr rfl).2 (settleLines_fits (settle_fits (owe_fits.2 (handle_fits ((fits_congr rfl).2 h)))))
      · exact settleLines_served _
  · exact State.keepsQueues_of_ports (c := s.ctl) rfl id

/-- R1: after a start nothing waits at any port. -/
theorem Controller.ports_at_rest_served {c : Controller} {f : PortId → ServiceFlag}
    (h : c.ports = Vector.ofFn fun p => restPort (f p)) : c.linesServed := fun p _ => by
  simp [port, h, restPort]

theorem State.powerUp_keepsQueues (s : State) : s.KeepsQueues (.next (s.withCtl s.ctl.powerUp)) := by
  unfold powerUp
  dsimp only
  split
  · exact State.keepsQueues_of_ports (c := s.ctl) rfl id
  · split
    · exact State.keepsQueues_withCtl (fun _ => warmRestart_fits) fun _ _ => ports_at_rest_served rfl
    · exact State.keepsQueues_withCtl (fun _ => coldStart_fits) fun _ _ => ports_at_rest_served rfl

theorem State.resetAssert_keepsQueues (s : State) : s.KeepsQueues (.next (s.withCtl s.ctl.resetAssert)) := by
  unfold resetAssert
  dsimp only
  split
  · exact State.keepsQueues_of_ports (c := s.ctl) rfl id
  · refine State.keepsQueues_withCtl (fun h p => ?_) fun _ hr => ?_
    · simp only [port, haltTimers, mapTimers, Fin.getElem_fin, Vector.getElem_ofFn]
      exact h p
    · simp [running, haltTimers, mapTimers] at hr

theorem State.resetRelease_keepsQueues (s : State) : s.KeepsQueues (.next (s.withCtl s.ctl.resetRelease)) := by
  unfold resetRelease
  dsimp only
  split
  · split
    · exact State.keepsQueues_withCtl (fun _ => warmRestart_fits) fun _ _ => ports_at_rest_served rfl
    · rename_i hc
      exact State.keepsQueues_withCtl (fits_congr rfl).2 fun _ hr => by simp [running, hc] at hr
  · exact State.keepsQueues_of_ports (c := s.ctl) rfl id

theorem State.passTime_keepsQueues (s : State) : s.KeepsQueues (.next (s.withCtl s.ctl.passTime)) := by
  unfold passTime tick
  split
  · rename_i hr
    refine State.keepsQueues_withCtl mapTimers_fits fun hs _ p => ?_
    simpa [port, mapTimers] using hs hr p
  · exact State.keepsQueues_of_ports (c := s.ctl) rfl id

theorem State.clockSecond_keepsQueues (s : State) : s.KeepsQueues (.next (s.withCtl s.ctl.clockSecond)) := by
  unfold clockSecond compareTariff
  split <;> [(dsimp only; split <;> [split; skip]); skip] <;> exact State.keepsQueues_of_ports rfl id

theorem State.coreLost_keepsQueues (s : State) (disturbed : Bool) :
    s.KeepsQueues (.next (s.withCtl (s.ctl.coreLost disturbed))) := by
  unfold coreLost
  split
  · exact State.keepsQueues_of_ports rfl fun hr => by simp [running] at hr
  · exact State.keepsQueues_of_ports (c := s.ctl) rfl id

/-! ## Every command -/

namespace Controller

section Carried

variable {kept : PortId → Bool} {c : Controller} {t : Telegram}

theorem carryHello_fits {p : PortId} {role nozzle : Octet} (h : c.fits kept) :
    (c.carryHello p role nozzle).eff.ctl.fits kept := by
  unfold carryHello
  split <;> simp [h]

theorem carryIsolate_fits {bank : Octet} (h : c.fits kept) : (c.carryIsolate t bank).eff.ctl.fits kept := by
  unfold carryIsolate
  split <;> simp [Eff.ok, h]

theorem carryRestore_fits {bank : Octet} (h : c.fits kept) : (c.carryRestore t bank).eff.ctl.fits kept := by
  unfold carryRestore
  split <;> [split; skip] <;> simp [Eff.ok, restoreBank, h]

theorem carryPause_fits {seconds : Nat} (h : c.fits kept) : (c.carryPause seconds).eff.ctl.fits kept := by
  simp [carryPause, Eff.ok, h]

theorem carryClear_fits (h : c.fits kept) : (c.carryClear t).eff.ctl.fits kept := by
  unfold carryClear
  split <;> simp [Eff.ok, h]

theorem carryWrite_fits {code : Octet} {entries : List SettingEntry} (h : c.fits kept) :
    (c.carryWrite t code entries).eff.ctl.fits kept := by
  unfold carryWrite
  split <;> simp [Eff.ok, takeWrite, h]

theorem carryLock_fits {code : Octet} {v : Bool} (h : c.fits kept) : (c.carryLock t code v).eff.ctl.fits kept := by
  unfold carryLock
  split <;> simp [Eff.ok, h]

theorem carryClock_fits {value : BitVec 32} (h : c.fits kept) : (c.carryClock value).eff.ctl.fits kept := by
  simp [carryClock, Eff.ok, h]

theorem carryColdStart_fits (h : c.fits kept) : (c.carryColdStart t).eff.ctl.fits kept := by
  unfold carryColdStart
  split <;> simp [Eff.ok, h]

theorem carryAuthorise_fits {nozzle customerClass priority : Octet} {moneyLimit : BitVec 32} {massLimit : BitVec 48}
    (h : c.fits kept) :
    (c.carryAuthorise t nozzle moneyLimit massLimit customerClass priority).eff.ctl.fits kept := by
  unfold carryAuthorise
  split
  · simp [h]
  · split
    · simp [h]
    · split <;> simp [Eff.ok, h]

theorem carryCancel_fits {nozzle : Octet} (h : c.fits kept) : (c.carryCancel t nozzle).eff.ctl.fits kept := by
  unfold carryCancel
  split <;> [skip; split] <;> simp [Eff.ok, h]

theorem carryTariff_fits {prices : Vector (BitVec 16) 8} {effective : BitVec 32} (h : c.fits kept) :
    (c.carryTariff t prices effective).eff.ctl.fits kept := by
  unfold carryTariff
  split <;> simp [Eff.ok, h]

theorem carryRead_fits {seq : Nat} {part : Option Octet} (h : c.fits kept) :
    (c.carryRead t seq part).eff.ctl.fits kept := by
  unfold carryRead
  split <;> simp [Eff.ok, h]

theorem carryAcknowledge_fits {seq : Nat} (h : c.fits kept) : (c.carryAcknowledge seq).eff.ctl.fits kept := by
  simp [carryAcknowledge, Eff.ok, h]

theorem carryAttach_fits {seq : Nat} {reference : List Octet} (h : c.fits kept) :
    (c.carryAttach t seq reference).eff.ctl.fits kept := by
  unfold carryAttach
  split <;> simp [Eff.ok, h]

theorem carryRefresh_fits {seq : Nat} (h : c.fits kept) : (c.carryRefresh t seq).eff.ctl.fits kept := by
  unfold carryRefresh
  split <;> [split; skip] <;> simp [Eff.ok, h]

theorem carryVerify_fits {seq : Nat} {word : BitVec 32} (h : c.fits kept) :
    (c.carryVerify t seq word).eff.ctl.fits kept := by
  unfold carryVerify
  split <;> [split; skip] <;> simp [Eff.ok, h]

end Carried

end Controller

/-- Every command keeps the queues of every port, and the lines. -/
theorem exec_keepsQueues (i : Instr) (s : State) : s.KeepsQueues (exec i s) := by
  cases i with
  | receiveGapTimeout p =>
    simp only [exec, execReceiveGapTimeout]
    exact s.does_keepsQueues fun c h => setPort_fits h (h p)
  | telegramArrival p octets =>
    simp only [exec, execTelegramArrival]
    exact s.does_keepsQueues fun c h => setPort_fits h (PortRec.fitsWith_receiveAll _ (h p))
  | octetArrival p octet =>
    simp only [exec, execOctetArrival]
    exact s.does_keepsQueues fun c h => setPort_fits h (PortRec.fitsWith_receiveAll _ (h p))
  | linkTimeout p =>
    simp only [exec, execLinkTimeout]
    exact s.does_keepsQueues fun c h => linkTimedOut_fits h
  | transmissionEnd p =>
    simp only [exec, execTransmissionEnd]
    exact s.does_keepsQueues fun c h => transmissionEnded_fits h
  | hello p tag role nozzle =>
    simp only [exec, execHello]
    exact s.request_keepsQueues _ fun _ _ _ => carryHello_fits
  | status p tag part =>
    simp only [exec, execStatus]
    exact s.request_keepsQueues _ fun _ _ _ h => h
  | isolateBank p tag bank =>
    simp only [exec, execIsolateBank]
    exact s.request_keepsQueues _ fun _ _ _ => carryIsolate_fits
  | restoreBank p tag bank =>
    simp only [exec, execRestoreBank]
    exact s.request_keepsQueues _ fun _ _ _ => carryRestore_fits
  | pauseFills p tag seconds =>
    simp only [exec, execPauseFills]
    exact s.request_keepsQueues _ fun _ _ _ => carryPause_fits
  | clearCompressorFault p tag =>
    simp only [exec, execClearCompressorFault]
    exact s.request_keepsQueues _ fun _ _ _ => carryClear_fits
  | writeSettings p tag group entries rest =>
    simp only [exec, execWriteSettings]
    exact s.requestLater_keepsQueues _ fun _ _ _ => carryWrite_fits
  | settingsHandOver =>
    simp only [exec, execSettingsHandOver]
    exact s.takeOwed_keepsQueues
  | lockGroup p tag group =>
    simp only [exec, execLockGroup]
    exact s.request_keepsQueues _ fun _ _ _ => carryLock_fits
  | unlockGroup p tag group =>
    simp only [exec, execUnlockGroup]
    exact s.request_keepsQueues _ fun _ _ _ => carryLock_fits
  | setMetrologyLock p tag =>
    simp only [exec, execSetMetrologyLock]
    exact s.request_keepsQueues _ fun _ _ _ => (fits_congr rfl).2
  | setClock p tag value =>
    simp only [exec, execSetClock]
    exact s.request_keepsQueues _ fun _ _ _ => carryClock_fits
  | restart p tag =>
    simp only [exec, execRestart]
    exact s.request_keepsQueues _ fun _ _ _ => (fits_congr rfl).2
  | coldStart p tag =>
    simp only [exec, execColdStart]
    exact s.request_keepsQueues _ fun _ _ _ => carryColdStart_fits
  | authorise p tag nozzle l m k prio =>
    simp only [exec, execAuthorise]
    exact s.request_keepsQueues _ fun _ _ _ => carryAuthorise_fits
  | cancel p tag nozzle =>
    simp only [exec, execCancel]
    exact s.request_keepsQueues _ fun _ _ _ => carryCancel_fits
  | writeTariff p tag prices effective =>
    simp only [exec, execWriteTariff]
    exact s.request_keepsQueues _ fun _ _ _ => carryTariff_fits
  | readRecord p tag seq part =>
    simp only [exec, execReadRecord]
    exact s.request_keepsQueues _ fun _ _ _ => carryRead_fits
  | acknowledge p tag seq =>
    simp only [exec, execAcknowledge]
    exact s.request_keepsQueues _ fun _ _ _ => carryAcknowledge_fits
  | attachReference p tag seq reference =>
    simp only [exec, execAttachReference]
    exact s.request_keepsQueues _ fun _ _ _ => carryAttach_fits
  | refreshCheck p tag seq =>
    simp only [exec, execRefreshCheck]
    exact s.request_keepsQueues _ fun _ _ _ => carryRefresh_fits
  | verifyCheck p tag seq word =>
    simp only [exec, execVerifyCheck]
    exact s.request_keepsQueues _ fun _ _ _ => carryVerify_fits
  | bankSample p tag entries rest =>
    simp only [exec, execBankSample]
    exact s.report_keepsQueues _ fun _ _ h => h
  | chillerSample p tag supply derate =>
    simp only [exec, execChillerSample]
    exact s.report_keepsQueues _ fun _ _ => (fits_congr rfl).2
  | ambientSample p tag a1 a2 a3 =>
    simp only [exec, execAmbientSample]
    exact s.report_keepsQueues _ fun _ _ => (fits_congr rfl).2
  | compressorSample p tag inlet discharge =>
    simp only [exec, execCompressorSample]
    exact s.report_keepsQueues _ fun _ _ => takeCompressorSample_fits
  | nozzleConnect p tag v d =>
    simp only [exec, execNozzleConnect]
    exact s.report_keepsQueues _ fun _ _ h => forNozzle_fits h fun _ => takeConnect_fits h
  | nozzleHang p tag =>
    simp only [exec, execNozzleHang]
    exact s.report_keepsQueues _ fun _ _ h => forNozzle_fits h fun _ => nozzleHang_fits h
  | stopPress p tag =>
    simp only [exec, execStopPress]
    exact s.report_keepsQueues _ fun _ _ h => forNozzle_fits h fun _ => stopPress_fits h
  | fieldSample p tag pressure gas tank flags count =>
    simp only [exec, execFieldSample]
    exact s.report_keepsQueues _ fun _ _ h => forNozzle_fits h fun _ => fieldSample_fits h
  | valveConfirm p tag bank generation state =>
    simp only [exec, execValveConfirm]
    exact s.report_keepsQueues _ fun _ _ => takeValveConfirm_fits
  | runConfirm p tag state =>
    simp only [exec, execRunConfirm]
    exact s.report_keepsQueues _ fun _ _ => takeRunConfirm_fits
  | flowConfirm p tag generation state =>
    simp only [exec, execFlowConfirm]
    exact s.report_keepsQueues _ fun _ _ h => forNozzle_fits h fun _ => takeFlowConfirm_fits h
  | ventDone p tag count =>
    simp only [exec, execVentDone]
    exact s.report_keepsQueues _ fun _ _ h => forNozzle_fits h fun _ => takeVentDone_fits h
  | powerUp =>
    simp only [exec, execPowerUp]
    exact s.powerUp_keepsQueues
  | resetAssert =>
    simp only [exec, execResetAssert]
    exact s.resetAssert_keepsQueues
  | resetRelease =>
    simp only [exec, execResetRelease]
    exact s.resetRelease_keepsQueues
  | clockSecond =>
    simp only [exec, execClockSecond]
    exact s.clockSecond_keepsQueues
  | valveOpenTimeout b =>
    simp only [exec, execValveOpenTimeout]
    exact s.does_keepsQueues fun _ => valveTimedOut_fits
  | valveCloseTimeout b =>
    simp only [exec, execValveCloseTimeout]
    exact s.does_keepsQueues fun _ => valveTimedOut_fits
  | runStartTimeout =>
    simp only [exec, execRunStartTimeout]
    exact s.does_keepsQueues fun _ => takeStartTimeout_fits
  | runStopTimeout =>
    simp only [exec, execRunStopTimeout]
    exact s.does_keepsQueues fun _ => takeStopTimeout_fits
  | stallWindowExpiry =>
    simp only [exec, execStallWindowExpiry]
    exact s.does_keepsQueues fun _ => takeStall_fits
  | backoffExpiry =>
    simp only [exec, execBackoffExpiry]
    exact s.does_keepsQueues fun _ h => ifRuns_fits h (backoffExpired_fits.2 h)
  | ambientHoldExpiry =>
    simp only [exec, execAmbientHoldExpiry]
    exact s.does_keepsQueues fun _ h => ifRuns_fits h ((fits_congr rfl).2 h)
  | connectWaitExpiry n =>
    simp only [exec, execConnectWaitExpiry]
    exact s.does_keepsQueues fun _ h => ifRuns_fits h (connectWaitExpired_fits h)
  | resourceWaitExpiry n =>
    simp only [exec, execResourceWaitExpiry]
    exact s.does_keepsQueues fun _ h => ifRuns_fits h (resourceWaitExpired_fits h)
  | pulseDelayExpiry n =>
    simp only [exec, execPulseDelayExpiry]
    exact s.does_keepsQueues fun _ h => ifRuns_fits h (pulseDelayExpired_fits h)
  | pulseWidthExpiry n =>
    simp only [exec, execPulseWidthExpiry]
    exact s.does_keepsQueues fun _ h => ifRuns_fits h (pulseWidthExpired_fits h)
  | sensitivePartEnd n =>
    simp only [exec, execSensitivePartEnd]
    exact s.does_keepsQueues fun _ => sensitivePartEnded_fits.2
  | settleWindowEnd n =>
    simp only [exec, execSettleWindowEnd]
    exact s.does_keepsQueues fun _ h => ifRuns_fits h (settleWindowEnded_fits h)
  | flowOrderTimeout n =>
    simp only [exec, execFlowOrderTimeout]
    exact s.does_keepsQueues fun _ h => ifRuns_fits h (flowTimedOut_fits h)
  | ventTimeout n =>
    simp only [exec, execVentTimeout]
    exact s.does_keepsQueues fun _ h => ifRuns_fits h (ventTimedOut_fits h)
  | progressTimerExpiry n =>
    simp only [exec, execProgressTimerExpiry]
    exact s.does_keepsQueues fun _ h => ifRuns_fits h (progressExpired_fits h)
  | rampStepExpiry n =>
    simp only [exec, execRampStepExpiry]
    exact s.does_keepsQueues fun _ h => ifRuns_fits h (rampStep_fits h)
  | holdPeriodExpiry n =>
    simp only [exec, execHoldPeriodExpiry]
    refine s.does_keepsQueues fun _ h => ?_
    split
    · exact holdPeriodExpired_fits h
    · exact h
  | pauseTimerExpiry =>
    simp only [exec, execPauseTimerExpiry]
    exact s.does_keepsQueues fun _ h => ifRuns_fits h (by rw [Eff.of_ctl]; exact endPause_fits h)
  | stopThresholdReached n =>
    simp only [exec, execStopThresholdReached]
    exact s.does_keepsQueues fun _ => takeStopReport_fits
  | meterFaultReport n =>
    simp only [exec, execMeterFaultReport]
    exact s.does_keepsQueues fun _ => takeFaultReport_fits
  | pacingTimerExpiry =>
    simp only [exec, execPacingTimerExpiry]
    exact s.does_keepsQueues fun _ h => ifRuns_fits h (pacingExpired_fits h)
  | coreSupplyLoss disturbed =>
    simp only [exec, execCoreSupplyLoss]
    exact s.coreLost_keepsQueues disturbed
  | retainedDomainSupplyLoss =>
    simp only [exec, execRetainedDomainSupplyLoss]
    exact State.keepsQueues_of_ports rfl id

/-- The same of a step. -/
theorem step_keepsQueues (s : State) : s.KeepsQueues (step s) := by
  unfold step
  split
  · exact exec_keepsQueues _ { s with pending := _ }
  · split
    · exact exec_keepsQueues _ s
    · exact s.passTime_keepsQueues

end Sys2Proof.Machine

open Sys2Proof.Machine in
/-- Settles O4: every command keeps the queues, each operation it is made of keeping them, and every step of a running
controller ends with its lines. -/
theorem stepKeepsQueues : Obligations.step_keeps_queues := by
  unfold Obligations.step_keeps_queues
  refine ⟨fun s t h e => ?_, fun s t _ hl e hr => (step_keepsQueues s t e).2 hl hr⟩
  exact t.ctl.queuesFit_iff.2 ((step_keepsQueues s t e).1 (s.ctl.queuesFit_iff.1 h))
end

-- The links: placing, receiving, transmission, HELLO, STATUS and refusals.
section
/-! R14, R15: where a telegram finds its place, and what the end of a transmission leaves. -/

namespace Sys2Proof.Machine

/-- R14: in a queue in order of priority a telegram stands behind those of its priority or a higher one. -/
theorem enqueue_eq_filter (t : Telegram) (q : List Telegram) (h : (q.map Telegram.priority).Pairwise (· ≥ ·)) :
    enqueue t q =
      (q.filter fun u => t.priority ≤ u.priority) ++ t :: (q.filter fun u => u.priority < t.priority) := by
  induction q with
  | nil => rfl
  | cons u q ih =>
    simp only [List.map_cons, List.pairwise_cons, List.mem_map, forall_exists_index, and_imp,
      forall_apply_eq_imp_iff₂] at h
    obtain ⟨hu, hq⟩ := h
    unfold enqueue
    by_cases hlt : u.priority < t.priority
    · have hall : ∀ x ∈ q, x.priority < t.priority := fun x hx => by have := hu x hx; omega
      have hnone : (q.filter fun x => decide (t.priority ≤ x.priority)) = [] :=
        List.filter_eq_nil_iff.2 fun x hx => by simpa using hall x hx
      have hsame : (q.filter fun x => decide (x.priority < t.priority)) = q :=
        List.filter_eq_self.2 fun x hx => by simpa using hall x hx
      rw [if_pos hlt, List.filter_cons_of_neg (by simpa using hlt), List.filter_cons_of_pos (by simpa using hlt),
        hnone, hsame, List.nil_append]
    · rw [if_neg hlt, ih hq, List.filter_cons_of_pos (by simpa using hlt), List.filter_cons_of_neg (by simpa using hlt),
        List.cons_append]

/-- R15: with no place kept for an answer, a place is free exactly where fewer than 12 telegrams wait. -/
theorem PortRec.hasPlace_of_none_kept (r : PortRec) (h : r.answerPlace = false) :
    r.hasPlace = decide (r.outbound.length < 12) := by
  simp [PortRec.hasPlace, h]

/-- R15: with a free place and no order held, an order and a notice enter the queue. -/
theorem PortRec.placed_in_free_place (r : PortRec) (t : Telegram) (hplace : r.hasPlace = true)
    (hheld : r.orderHold = []) :
    r.placeOrder t = { r with outbound := enqueue t r.outbound } ∧
      r.placeNotice t = ({ r with outbound := enqueue t r.outbound }, true) := by
  simp [PortRec.placeOrder, PortRec.placeNotice, hplace, hheld]

/-- R15: a notice other than FILL_PROGRESS is discarded without a free place, and behind held orders. -/
theorem PortRec.placeNotice_discarded (r : PortRec) (t : Telegram) (hk : t.kind ≠ 0x61)
    (h : r.hasPlace = false ∨ r.orderHold ≠ []) : r.placeNotice t = (r, false) := by
  rcases r.placeNotice_cases t with ⟨hp, hh, -⟩ | ⟨-, hk', -⟩ | ⟨-, -, e⟩
  · rcases h with h | h
    · simp [hp] at h
    · exact absurd hh h
  · exact absurd hk' hk
  · exact e

/-- The oldest FILL_PROGRESS of a queue is the first in it. -/
theorem dropOldestProgress_append (l m : List Telegram) (u : Telegram) (hu : u.kind = 0x61)
    (hl : ∀ x ∈ l, x.kind ≠ 0x61) : dropOldestProgress (l ++ u :: m) = l ++ m := by
  induction l with
  | nil => simp [dropOldestProgress, hu]
  | cons x l ih =>
    have hx : x.kind ≠ 0x61 := hl x (List.mem_cons_self ..)
    rw [List.cons_append, dropOldestProgress, if_neg hx, ih fun y hy => hl y (List.mem_cons_of_mem _ hy)]
    rfl

/-- R15: a FILL_PROGRESS that finds no free place takes that of the oldest one. -/
theorem PortRec.placeNotice_progress (r : PortRec) (t u : Telegram) (l m : List Telegram)
    (hq : r.outbound = l ++ u :: m) (hu : u.kind = 0x61) (hl : ∀ x ∈ l, x.kind ≠ 0x61) (ht : t.kind = 0x61)
    (hfull : r.hasPlace = false) : r.placeNotice t = ({ r with outbound := enqueue t (l ++ m) }, true) := by
  have hany : r.outbound.any (fun x => x.kind = 0x61) = true := by simp [hq, hu]
  rcases r.placeNotice_cases t with ⟨hp, -, -⟩ | ⟨-, -, -, e⟩ | ⟨-, hn, -⟩
  · simp [hp] at hfull
  · rw [e, hq, dropOldestProgress_append l m u hu hl]
  · exact absurd ⟨ht, hany⟩ hn

/-- R15: an order at a full queue takes the place of the notice that stands last, and is held where none does. -/
theorem PortRec.placeOrder_full (r : PortRec) (t u : Telegram) (q : List Telegram) (hheld : r.orderHold = [])
    (hq : r.outbound = q ++ [u]) (hfull : r.hasPlace = false) :
    r.placeOrder t =
      if u.priority = 0 then { r with outbound := enqueue t q } else { r with orderHold := [t] } := by
  by_cases hu : u.priority = 0 <;> simp [PortRec.placeOrder, Telegram.isNotice, hheld, hfull, hq, hu]

end Sys2Proof.Machine

open Sys2Proof Sys2Proof.Machine in
/-- Settles O18: the place in the queue by induction on it, and each placement by its own lemma. -/
theorem outboundTelegramsArePlaced : Obligations.outbound_telegrams_are_placed := by
  unfold Obligations.outbound_telegrams_are_placed
  refine ⟨enqueue_eq_filter, fun r t hkept hlen => ?_⟩
  have hplace := r.hasPlace_of_none_kept hkept
  refine ⟨fun hfree hheld => ?_, fun hheld => ⟨?_, fun hk => ?_⟩, fun u q hheld hq hlen => ⟨?_, fun hk => ?_⟩,
    fun u l m hq hu hl ht hfull => ?_⟩
  · exact r.placed_in_free_place t (by simpa [hplace] using hfree) hheld
  · rw [PortRec.placeOrder, if_pos hheld]
  · exact r.placeNotice_discarded t hk (.inr hheld)
  · exact r.placeOrder_full t u q hheld hq (by simp [hplace, hq, hlen])
  · exact r.placeNotice_discarded t hk (.inl (by simp [hplace, hq, hlen]))
  · exact r.placeNotice_progress t u l m hq hu hl ht (by simp [hplace, hfull])

namespace Sys2Proof.Machine

/-- R14: a line that is freed takes the head of its queue. -/
theorem PortRec.pump_lineFreed (r : PortRec) : ({ r with line := none } : PortRec).pump = r.lineFreed := by
  unfold PortRec.pump PortRec.lineFreed
  cases hq : r.outbound with
  | nil => rfl
  | cons t q => cases hh : r.orderHold <;> rfl

/-- A step of a controller at rest whose operation rewrites one port and tells nothing. -/
theorem Controller.perform_setPort (c : Controller) (f : Controller → Eff) (p : PortId) (r : PortRec) (h : c.atRest)
    (hf : f c = .of (c.setPort p r)) : c.perform f = c.setPort p r.pump := by
  obtain ⟨hr, ho, hl, -⟩ := h
  rw [c.perform_quiet f hr ho (by rw [hf]; rfl) (by rw [hf]; exact ho), hf]
  exact c.settleLines_setPort p r hl

/-- R14: at a busy line the transmission ends, where no start is taken with it. -/
theorem Controller.transmissionEnded_busy (c : Controller) (p : PortId) (h : c.pendingStart = none ∨ p ≠ plantPort)
    (hl : (c.port p).line ≠ none) : c.transmissionEnded p = c.setPort p { c.port p with line := none } := by
  unfold Controller.transmissionEnded
  dsimp only
  split
  · rename_i he; exact absurd he hl
  · rename_i hk
    rcases h with h | h
    · rw [h] at hk; cases hk
    · rw [if_neg fun hc => h hc.1]
  · rfl

end Sys2Proof.Machine

open Sys2Proof Sys2Proof.Machine in
/-- Settles O24: an idle line has nothing to end; a busy one is freed, and its head taken at the end of the step. -/
theorem transmissionEnds : Obligations.transmission_ends := by
  unfold Obligations.transmission_ends
  intro s p h hstart
  simp only [exec, execTransmissionEnd]
  split
  · rename_i hl
    refine s.does_nothing _ h ?_
    simp [Controller.transmissionEnded, hl]
  · rename_i hl
    rw [State.does, s.ctl.perform_setPort _ p _ h (by rw [s.ctl.transmissionEnded_busy p hstart hl]),
      PortRec.pump_lineFreed]

end

section
/-! R17, R161: STATUS. R10, R11, R99: requests that are refused. -/

namespace Sys2Proof.Machine

@[simp] theorem octets_length (n v : Nat) : (octets n v).length = n := by
  induction n with
  | zero => rfl
  | succ n ih => simp [octets, ih]

@[simp] theorem pressureField_length (p : Option Nat) : (pressureField p).length = 3 := by
  cases p <;> simp [pressureField]

/-- A list each of whose parts has one length. -/
theorem length_flatMap_const {α β : Type} (l : List α) (f : α → List β) (k : Nat) (h : ∀ x, (f x).length = k) :
    (l.flatMap f).length = k * l.length := by
  simp [List.length_flatMap, h, Nat.mul_comm]

/-- The record of a port while the request at its head is carried out. -/
theorem Controller.port_setPort_agree (c : Controller) {α : Type} (f : PortRec → α) (p : PortId) (r : PortRec)
    (h : f r = f (c.port p)) (q : PortId) : f ((c.setPort p r).port q) = f (c.port q) := by
  by_cases hq : q = p
  · subst hq; simpa using h
  · rw [c.port_setPort_ne r hq]

/-- R17: what a STATUS gathers of the ports is not in their queues. -/
theorem Controller.statusPart0_setPort (c : Controller) (p : PortId) (r : PortRec)
    (hs : r.service = (c.port p).service) (hl : r.link = (c.port p).link) :
    (c.setPort p r).statusPart0 = c.statusPart0 := by
  have hport : ∀ q, ((c.setPort p r).port q).statusOctet = (c.port q).statusOctet :=
    c.port_setPort_agree PortRec.statusOctet p r (by simp [PortRec.statusOctet, hs, hl])
  have hnozzle : (c.setPort p r).nozzleStatus = c.nozzleStatus := rfl
  simp only [Controller.statusPart0, hport, hnozzle, setPort_sched, setPort_alloc, setPort_thermal, setPort_ring,
    setPort_stationTotal, setPort_nozzleTotals]
  rfl

/-- R130: the pause time remaining, 0 where no pause runs. -/
theorem Controller.pauseLeft_eq (c : Controller) : c.pauseLeft = (c.pauseTimer.getD 0 + 999) / 1000 := by
  unfold Controller.pauseLeft
  cases c.pauseTimer <;> rfl

/-- R11: every role may send a HELLO and a STATUS. -/
theorem everyRole_may_send (p : PortId) : roleMaySend (roleOf p) 0x01 = true ∧ roleMaySend (roleOf p) 0x02 = true := by
  revert p
  decide

/-- R17: a STATUS carried out while a place is kept for its answer gathers what the controller held before. -/
theorem Controller.carryStatus_setPort (c : Controller) (p : PortId) (r : PortRec) (part : Option Octet)
    (hs : r.service = (c.port p).service) (hl : r.link = (c.port p).link) :
    (c.setPort p r).carryStatus part =
      ⟨.of (c.setPort p r), .ok, if selectsPart1 part then c.statusPart1 else c.statusPart0⟩ := by
  rw [Controller.carryStatus, c.statusPart0_setPort p r hs hl]
  rfl

end Sys2Proof.Machine

open Sys2Proof Sys2Proof.Machine in
/-- Settles O26: a STATUS is answered with the part it selects, whose fields stand as the layouts give them. -/
theorem statusIsGathered : Obligations.status_is_gathered := by
  unfold Obligations.status_is_gathered
  intro s p tag part rest h ha
  dsimp only
  refine ⟨?_, ?_, ?_⟩
  · have hpermitted : Telegram.permitted ⟨0x02, tag, partField part⟩ = true := by cases part <;> rfl
    simp only [exec, execStatus, State.request, telegramOf, State.does]
    rw [s.ctl.perform_request s.ctl p _ rest _ .ok (if selectsPart1 part then s.ctl.statusPart1 else s.ctl.statusPart0)
      h ha hpermitted (everyRole_may_send p).2 rfl h.2.1
      (s.ctl.carryStatus_setPort p { s.ctl.port p with inbound := rest, answerPlace := true } part rfl rfl)]
    simp only [answerTo, selectsPart1, beq_iff_eq, Controller.statusPart0, s.ctl.pauseLeft_eq]
    rfl
  · simp [length_flatMap_const _ _ 8, length_flatMap_const _ _ 6, allNozzles]
  · simp [length_flatMap_const _ _ 8, Nat.add_comm]

namespace Sys2Proof.Machine

/-! ## What the command of a telegram runs (R10) -/

/-- The command of a telegram serves it as a request, its hand-overs waiting or not, or as a report. -/
theorem exec_of_telegram (i : Instr) (p : PortId) (t : Telegram) (h : telegramOf i = some (p, t)) :
    (t.isRequest = true ∧ ∃ carry,
        (∀ s, exec i s = .next (s.withCtl (s.ctl.perform fun c => c.serveRequest p t carry))) ∨
        (∀ s, exec i s = .next (s.withCtl (s.ctl.performLater fun c => c.serveRequest p t carry)))) ∨
      (t.isRequest = false ∧ ∃ act, ∀ s, exec i s = .next (s.withCtl (s.ctl.perform fun c => c.serveReport p t act))) := by
  cases i <;> cases h
  case writeSettings => exact .inl ⟨rfl, _, .inr fun _ => rfl⟩
  case hello | status | isolateBank | restoreBank | pauseFills | clearCompressorFault | lockGroup | unlockGroup |
      setMetrologyLock | setClock | restart | coldStart | authorise | cancel | writeTariff | readRecord | acknowledge |
      attachReference | refreshCheck | verifyCheck =>
    exact .inl ⟨rfl, _, .inl fun _ => rfl⟩
  case bankSample | chillerSample | ambientSample | compressorSample | nozzleConnect | nozzleHang | stopPress |
      fieldSample | valveConfirm | runConfirm | flowConfirm | ventDone =>
    exact .inr ⟨rfl, _, fun _ => rfl⟩

/-! ## Requests refused and reports discarded (R10, R11) -/

/-- A request refused, but for a CANCEL, carries zero fields, and a CLEAR_COMPRESSOR_FAULT the compressor's. -/
theorem Controller.refuse_eq (c : Controller) (t : Telegram) (why : Result) (hk : t.kind ≠ 0x21) :
    c.refuse t why = ⟨.of c, why, if t.kind = 0x13 then c.compressorBody else zeros (refusedLength t)⟩ := by
  unfold Controller.refuse
  split
  · rename_i h
    exact absurd (BitVec.eq_of_toNat_eq h) hk
  · rename_i h
    rw [if_pos (BitVec.eq_of_toNat_eq h)]
  · rename_i h
    rw [if_neg fun he => h (by rw [he]; rfl)]

/-- A CANCEL refused names its nozzle, if it exists, with its state. -/
theorem Controller.refuse_cancel (c : Controller) (tag nozzle : Octet) (n : Nozzle) (why : Result)
    (hn : nozzleOfNumber nozzle.toNat = some n) :
    c.refuse ⟨0x21, tag, [nozzle]⟩ why = ⟨.of c, why, [nozzle, (c.ctx n).state.code, 0, 0, 0, 0]⟩ := by
  simp [Controller.refuse, Controller.cancelBody, hn, octets]

/-- Where it does not exist, the state is a free value. -/
theorem Controller.refuse_cancel_of_none (c : Controller) (tag nozzle : Octet) (why : Result)
    (hn : nozzleOfNumber nozzle.toNat = none) :
    c.refuse ⟨0x21, tag, [nozzle]⟩ why =
      ⟨.of { c with freeCount := c.freeCount + 1 }, why, [nozzle, Config.freeOctet c.freeCount, 0, 0, 0, 0]⟩ := by
  simp [Controller.refuse, Controller.cancelBody, hn, octets]

/-- A controller while the request at the head of a port's queue is carried out: the head is taken, and a place kept
for its answer (R10; log entry 17). -/
def Controller.carrying (c : Controller) (p : PortId) (rest : List Telegram) : Controller :=
  c.setPort p { c.port p with inbound := rest, answerPlace := true }

/-- R10, R11: the request at the head, carried out or refused as `k`, and answered. -/
theorem Controller.answerHead_eq (c : Controller) (p : PortId) (t : Telegram) (rest : List Telegram)
    (carry : Controller → Carried) (k : Carried) (hin : (c.port p).inbound = t :: rest)
    (hk : (if roleMaySend (roleOf p) t.kind then carry (c.carrying p rest) else (c.carrying p rest).refuse t .role) = k) :
    c.answerHead p t carry = k.eff.change fun e => e.updPort p fun r => r.placeAnswer (answerTo t k.result k.body) := by
  have hd : c.updPort p (fun r => { r.takeHead with answerPlace := true }) = c.carrying p rest := by
    simp [Controller.carrying, Controller.updPort, PortRec.takeHead, hin]
  rw [Controller.answerHead, hd, hk]

/-- An answer takes the place that was kept for it. -/
theorem Controller.carrying_answered (c : Controller) (p : PortId) (rest : List Telegram) (a : Telegram)
    (hlen : (c.port p).outbound.length < 12) (hfree : (c.port p).answerPlace = false) :
    (c.carrying p rest).updPort p (fun r => r.placeAnswer a) =
      c.setPort p { c.port p with inbound := rest, outbound := enqueue a (c.port p).outbound } := by
  simp [Controller.carrying, Controller.updPort, PortRec.placeAnswer, hlen, hfree]

/-- R11: a request that the role may not send is answered ROLE and carried out no further. -/
theorem Controller.serveRequest_role (c : Controller) (p : PortId) (t : Telegram) (rest : List Telegram)
    (carry : Controller → Carried) (body : List Octet) (hc : c.atRest) (ha : c.asked p t rest) (ht : t.permitted = true)
    (hrole : roleMaySend (roleOf p) t.kind = false)
    (hbody : (c.carrying p rest).refuse t .role = ⟨.of (c.carrying p rest), .role, body⟩) :
    c.serveRequest p t carry = .of (c.setPort p
      { c.port p with inbound := rest, outbound := enqueue (answerTo t .role body) (c.port p).outbound }) := by
  obtain ⟨-, -, -, hplace⟩ := hc
  obtain ⟨hin, hlen, -, -⟩ := id ha
  rw [c.serveRequest_asked p t rest carry ht ha, c.answerHead_eq p t rest carry ⟨_, _, body⟩ hin (by rw [hrole]; exact hbody),
    ← c.carrying_answered p rest _ hlen (hplace p)]
  rfl

/-- What the lines make of an answer that has entered the queue of a served port (R14). -/
theorem Controller.settleLines_answered (c : Controller) (p : PortId) (a : Telegram) (rest : List Telegram)
    (hl : c.linesServed) (hheld : (c.port p).orderHold = []) :
    (c.setPort p { c.port p with inbound := rest, outbound := enqueue a (c.port p).outbound }).settleLines =
      c.answered p rest a := by
  rw [c.settleLines_setPort p _ hl]
  have := PortRec.pump_enqueue { c.port p with inbound := rest } a (hl p) hheld
  simp only at this
  rw [this]
  simp [Controller.answered, Controller.taken, Controller.sends]

/-- R11: a refusal of the role filter, whether or not the request's hand-overs would have waited. -/
theorem Controller.perform_role (c : Controller) (p : PortId) (t : Telegram) (rest : List Telegram)
    (carry : Controller → Carried) (body : List Octet) (hc : c.atRest) (ha : c.asked p t rest) (ht : t.permitted = true)
    (hrole : roleMaySend (roleOf p) t.kind = false)
    (hbody : (c.carrying p rest).refuse t .role = ⟨.of (c.carrying p rest), .role, body⟩) :
    c.perform (fun d => d.serveRequest p t carry) = c.answered p rest (answerTo t .role body) ∧
      c.performLater (fun d => d.serveRequest p t carry) = c.answered p rest (answerTo t .role body) := by
  have hs := c.serveRequest_role p t rest carry body hc ha ht hrole hbody
  have hsend := c.settleLines_answered p (answerTo t .role body) rest hc.2.2.1 ha.2.2.1
  obtain ⟨hr, ho, -, -⟩ := hc
  constructor
  · rw [c.perform_quiet _ hr ho (by rw [hs]; rfl) (by rw [hs]; exact ho), hs]
    exact hsend
  · rw [c.performLater_quiet _ hr ho, hs]
    exact hsend

/-- R11: the command of a request that the role may not send. -/
theorem exec_role (i : Instr) (s : State) (p : PortId) (t : Telegram) (rest : List Telegram) (body : List Octet)
    (h : s.ctl.atRest) (hi : telegramOf i = some (p, t)) (ht : t.permitted = true)
    (hrole : roleMaySend (roleOf p) t.kind = false) (hreq : t.isRequest = true) (ha : s.ctl.asked p t rest)
    (hbody : (s.ctl.carrying p rest).refuse t .role = ⟨.of (s.ctl.carrying p rest), .role, body⟩) :
    exec i s = .next (s.withCtl (s.ctl.answered p rest (answerTo t .role body))) := by
  rcases exec_of_telegram i p t hi with ⟨-, carry, e | e⟩ | ⟨hrep, -⟩
  · rw [e, (s.ctl.perform_role p t rest carry _ h ha ht hrole hbody).1]
  · rw [e, (s.ctl.perform_role p t rest carry _ h ha ht hrole hbody).2]
  · rw [hreq] at hrep; cases hrep

/-- R10, R11: a report of a kind that the role may not send is discarded. -/
theorem Controller.perform_discards (c : Controller) (p : PortId) (t : Telegram) (rest : List Telegram)
    (act : Controller → Eff) (hc : c.atRest) (ha : c.told p t rest) (ht : t.permitted = true)
    (hrole : roleMaySend (roleOf p) t.kind = false) :
    c.perform (fun d => d.serveReport p t act) = c.taken p rest := by
  have hin : (c.port p).inbound = t :: rest := ha
  have hserved : ({ c.port p with inbound := rest } : PortRec).pump = { c.port p with inbound := rest } :=
    PortRec.pump_eq_self _ (hc.2.2.1 p)
  rw [c.perform_setPort _ p { c.port p with inbound := rest } hc ?_, hserved]
  · rfl
  · rw [c.serveReport_told p t rest act ht ha]
    simp [Controller.takeHeadReport, hrole, Controller.updPort, PortRec.takeHead, hin]

/-- R11: only the till may cancel. -/
theorem cancel_role (p : PortId) : roleMaySend (roleOf p) 0x21 = decide (p = tillPort) := by
  revert p
  decide

/-- The nozzle that a number names. -/
theorem nozzleOfNumber_eq (n : Nozzle) : nozzleOfNumber (n.val + 1) = some n := by
  have : n.val + 1 ≤ 6 := by omega
  simp [nozzleOfNumber, this]

theorem nozzleOfNumber_outside {k : Nat} (h : k = 0 ∨ 6 < k) : nozzleOfNumber k = none := by
  unfold nozzleOfNumber
  rw [dif_neg (by omega)]

/-- R99: in these states a CANCEL finds no fill to end. -/
theorem NozzleState.not_cancellable {x : NozzleState} (h : x = .idle ∨ x = .connected ∨ x = .ending ∨ x = .complete) :
    x.cancellable = false := by
  rcases h with rfl | rfl | rfl | rfl <;> rfl

/-- R99, R10: a CANCEL from the till, carried out as a refusal. -/
theorem exec_cancel_refused (s : State) (e : Controller) (tag nozzle : Octet) (rest : List Telegram) (why : Result)
    (body : List Octet) (h : s.ctl.atRest) (ha : s.ctl.asked tillPort ⟨0x21, tag, [nozzle]⟩ rest)
    (hp : e.ports = s.ctl.ports) (ho : e.owed = [])
    (hcarry : ∀ r : PortRec, (s.ctl.setPort tillPort r).carryCancel ⟨0x21, tag, [nozzle]⟩ nozzle =
      ⟨.of (e.setPort tillPort r), why, body⟩) :
    exec (.cancel tillPort tag nozzle) s =
      .next (s.withCtl (e.answered tillPort rest ⟨0xA1, tag, why.code :: body⟩)) := by
  have hport : e.port tillPort = s.ctl.port tillPort := by simp [Controller.port, hp]
  simp only [exec, execCancel, State.request, telegramOf, State.does]
  rw [s.ctl.perform_request e tillPort _ rest _ why body h ha rfl (cancel_role tillPort) hp ho
    (by rw [hport]; exact hcarry _)]
  rfl

end Sys2Proof.Machine

open Sys2Proof Sys2Proof.Machine in
/-- Settles O27: the role filter by the form that the command of a telegram takes, a CANCEL by its carrying out. -/
theorem commandsAreRefused : Obligations.commands_are_refused := by
  unfold Obligations.commands_are_refused
  refine ⟨fun i s p t rest h hi ht hrole => ⟨fun hreq hk ha => ?_, fun hrep ha => ?_⟩, fun s p tag nozzle rest h => ?_⟩
  · have hbody : (s.ctl.carrying p rest).refuse t .role = ⟨.of (s.ctl.carrying p rest), .role,
        if t.kind = 0x13 then s.ctl.compressorBody else zeros (refusedLength t)⟩ := Controller.refuse_eq _ t .role hk
    exact exec_role i s p t rest _ h hi ht hrole hreq ha hbody
  · rcases exec_of_telegram i p t hi with ⟨hreq, -⟩ | ⟨-, act, e⟩
    · rw [hrep] at hreq; cases hreq
    · rw [e, s.ctl.perform_discards p t rest act h ha ht hrole]
  · intro c ha
    refine ⟨fun hout hp => ?_, fun n hn => ?_⟩
    · subst hp
      have hnone := nozzleOfNumber_outside hout
      exact exec_cancel_refused s { c with freeCount := c.freeCount + 1 } tag nozzle rest .argument _ h ha rfl h.2.1
        fun r => by simp only [Controller.carryCancel, hnone, Controller.refuse_cancel_of_none _ _ _ _ hnone]; rfl
    · have hsome : nozzleOfNumber nozzle.toNat = some n := by rw [hn]; exact nozzleOfNumber_eq n
      refine ⟨fun hp => ?_, fun hp hst => ?_⟩
      · have hrole : roleMaySend (roleOf p) 0x21 = false := by rw [cancel_role]; simpa using hp
        exact exec_role (.cancel p tag nozzle) s p _ rest _ h rfl rfl hrole rfl ha
          (Controller.refuse_cancel _ tag nozzle n .role hsome)
      · subst hp
        have hno : (s.ctl.ctx n).state.cancellable = false := NozzleState.not_cancellable hst
        refine exec_cancel_refused s c tag nozzle rest .state _ h ha rfl h.2.1 fun r => ?_
        simp only [Controller.carryCancel, hsome, Controller.setPort_ctx, hno]
        exact Controller.refuse_cancel _ tag nozzle n .state hsome
end

section
/-! R4, R10: the command of a telegram that has not yet arrived. -/

namespace Sys2Proof.Machine

/-- A controller at whose port, UP and with an empty inbound queue, a telegram has arrived (R4). -/
def Controller.brought (c : Controller) (p : PortId) (t : Telegram) : Controller :=
  c.setPort p { c.port p with inbound := [t], linkTimer := some linkTime }

theorem Controller.arrive_brought (c : Controller) (p : PortId) (t : Telegram) (hup : (c.port p).link = .up)
    (hin : (c.port p).inbound = []) : c.arrive p t = c.brought p t := by
  simp [Controller.arrive, Controller.brought, PortRec.arrive, PortRec.offer, hup, hin]

/-- Brought to the head by its command or standing there already, a telegram is served from one and the same state. -/
theorem Controller.toHead_brought (c : Controller) (p : PortId) (t : Telegram) (hup : (c.port p).link = .up)
    (hin : (c.port p).inbound = []) :
    c.toHead p t = c.brought p t ∧ (c.brought p t).toHead p t = c.brought p t := by
  constructor
  · rw [Controller.toHead, if_neg (by simp [Controller.atHead, hin]), c.arrive_brought p t hup hin]
  · exact (c.brought p t).toHead_of_head p t [] (by simp [Controller.brought])

theorem Controller.serveRequest_brought (c : Controller) (p : PortId) (t : Telegram) (carry : Controller → Carried)
    (hup : (c.port p).link = .up) (hin : (c.port p).inbound = []) (ht : t.permitted = true) :
    c.serveRequest p t carry = (c.brought p t).serveRequest p t carry := by
  obtain ⟨h₁, h₂⟩ := c.toHead_brought p t hup hin
  simp only [Controller.serveRequest, ht, if_true, h₁, h₂]

theorem Controller.serveReport_brought (c : Controller) (p : PortId) (t : Telegram) (act : Controller → Eff)
    (hup : (c.port p).link = .up) (hin : (c.port p).inbound = []) (ht : t.permitted = true) :
    c.serveReport p t act = (c.brought p t).serveReport p t act := by
  obtain ⟨h₁, h₂⟩ := c.toHead_brought p t hup hin
  simp only [Controller.serveReport, ht, if_true, h₁, h₂]

/-- A step with nothing waiting rests on its operation's effect alone. -/
theorem Controller.perform_congr (c d : Controller) (f : Controller → Eff) (hc : c.running = true) (hd : d.running = true)
    (hoc : c.owed = []) (hod : d.owed = []) (hf : f c = f d) :
    c.perform f = d.perform f ∧ c.performLater f = d.performLater f := by
  simp [Controller.perform, Controller.performLater, hc, hd, c.settle_nil hoc, d.settle_nil hod, hf]

end Sys2Proof.Machine

open Sys2Proof Sys2Proof.Machine in
/-- Settles O22: the telegram's arrival leaves the state from which its command, the telegram at the head, starts. -/
theorem commandBringsItsTelegram : Obligations.command_brings_its_telegram := by
  unfold Obligations.command_brings_its_telegram
  rintro i s p t ⟨hr, ho, -⟩ hi ht hup hin
  have hcongr := fun f => s.ctl.perform_congr (s.ctl.brought p t) f hr hr ho ho
  show exec i s = exec i (s.withCtl (s.ctl.brought p t))
  rcases exec_of_telegram i p t hi with ⟨-, carry, e | e⟩ | ⟨-, act, e⟩
  · rw [e, e, (hcongr _ (s.ctl.serveRequest_brought p t carry hup hin ht)).1]; rfl
  · rw [e, e, (hcongr _ (s.ctl.serveRequest_brought p t carry hup hin ht)).2]; rfl
  · rw [e, e, (hcongr _ (s.ctl.serveReport_brought p t act hup hin ht)).1]; rfl
end

section
/-! R3, R4, R9, R160: octets that join the assembly, and the telegrams they complete. -/

namespace Sys2Proof.Machine

/-- R3: an octet that completes no telegram leaves what it makes of the assembly. -/
theorem PortRec.receive_of_taken (r k : PortRec) (o : Octet) (h : r.takeOctet o = (k, none)) : r.receive o = k := by
  simp [PortRec.receive, h]

/-- R3, R4: a completed telegram arrives if it is valid. -/
theorem PortRec.receive_of_completed (r k : PortRec) (o : Octet) (a : List Octet) (h : r.takeOctet o = (k, some a)) :
    r.receive o = (validTelegram a).elim k k.arrive := by
  simp only [PortRec.receive, h]
  cases validTelegram a <;> rfl

theorem PortRec.receive_first (r : PortRec) (o : Octet) (h : r.assembly = []) :
    r.receive o = if o = 0x7E then r.join o else r := by
  apply PortRec.receive_of_taken
  rw [PortRec.takeOctet, h]
  exact (apply_ite (fun k => (k, none)) ..).symm

theorem PortRec.receive_second (r : PortRec) (o a : Octet) (h : r.assembly = [a]) :
    r.receive o = if 120 < o.toNat then r.dropAssembly else r.join o := by
  apply PortRec.receive_of_taken
  rw [PortRec.takeOctet, h]
  exact (apply_ite (fun k => (k, none)) ..).symm

theorem PortRec.receive_joins (r : PortRec) (o a len : Octet) (l : List Octet) (h : r.assembly = a :: len :: l)
    (hl : l.length + 1 < len.toNat + 4) : r.receive o = r.join o := by
  apply PortRec.receive_of_taken
  rw [PortRec.takeOctet, h]
  exact if_pos (by simp only [List.length_cons]; omega)

/-- R3: the octet that completes a telegram: the assembly is emptied, and the telegram, if valid, arrives. -/
theorem PortRec.receive_last (r : PortRec) (o a len : Octet) (l : List Octet) (h : r.assembly = a :: len :: l)
    (hl : len.toNat + 4 ≤ l.length + 1) :
    r.receive o = (validTelegram (a :: len :: l ++ [o])).elim r.dropAssembly r.dropAssembly.arrive := by
  apply PortRec.receive_of_completed
  rw [PortRec.takeOctet, h]
  exact if_neg (by simp only [List.length_cons]; omega)

/-- R3: octets that complete no telegram join one after another. -/
theorem PortRec.receiveAll_joins (a len : Octet) (m : List Octet) :
    ∀ (r : PortRec) (l : List Octet), r.assembly = a :: len :: l → r.gapTimer = some gapTime →
      l.length + m.length < len.toNat + 4 →
      m.foldl PortRec.receive r = { r with assembly := a :: len :: (l ++ m) } := by
  induction m with
  | nil => intro r l h hg _; simp [← h]
  | cons o m ih =>
    intro r l h hg hl
    simp only [List.length_cons] at hl
    rw [List.foldl_cons, r.receive_joins o a len l h (by omega), ih (r.join o) (l ++ [o]) (by simp [PortRec.join, h]) rfl
      (by simp only [List.length_append, List.length_singleton]; omega)]
    simp [PortRec.join, hg]

/-- R3, R160: the octets of a telegram at an empty assembly, whatever its check octets. -/
theorem PortRec.receiveAll_telegram (r : PortRec) (len kind tag c1 c2 : Octet) (body : List Octet)
    (h : r.assembly = []) (hlen : len.toNat = body.length) (hbody : body.length ≤ 120) :
    (0x7E :: len :: kind :: tag :: body ++ [c1, c2]).foldl PortRec.receive r =
      (validTelegram (0x7E :: len :: kind :: tag :: body ++ [c1, c2])).elim { r with gapTimer := none }
        ({ r with gapTimer := none } : PortRec).arrive := by
  have hsplit : (0x7E :: len :: kind :: tag :: body ++ [c1, c2] : List Octet) =
      0x7E :: len :: ((kind :: tag :: body ++ [c1]) ++ [c2]) := by simp
  have hstart : (r.receive 0x7E).receive len =
      { r with assembly := [0x7E, len], gapTimer := some gapTime } := by
    rw [r.receive_first _ h, if_pos rfl, PortRec.receive_second _ len 0x7E (by simp [PortRec.join, h]),
      if_neg (by omega)]
    simp [PortRec.join, h]
  have hend := PortRec.receive_last
    { r with assembly := 0x7E :: len :: (kind :: tag :: body ++ [c1]), gapTimer := some gapTime } c2 0x7E len _ rfl
    (by simp; omega)
  have hdrop : ({ r with assembly := 0x7E :: len :: (kind :: tag :: body ++ [c1]), gapTimer := some gapTime } :
      PortRec).dropAssembly = { r with gapTimer := none } := by simp [PortRec.dropAssembly, h]
  rw [hsplit, List.foldl_cons, List.foldl_cons, List.foldl_append, hstart,
    PortRec.receiveAll_joins 0x7E len (kind :: tag :: body ++ [c1]) _ [] rfl rfl (by simp; omega)]
  rw [hdrop] at hend
  exact hend

/-- Tests 1 to 4 of R3 on the octets of a telegram. -/
theorem validTelegram_eq (len kind tag c1 c2 : Octet) (body : List Octet) (hlen : len.toNat = body.length)
    (hbody : body.length ≤ 120) :
    validTelegram (0x7E :: len :: kind :: tag :: body ++ [c1, c2]) =
      if [c1, c2] = octets 2 (crc16 (len :: kind :: tag :: body)).toNat ∧ Telegram.permitted ⟨kind, tag, body⟩ = true then
        some ⟨kind, tag, body⟩
      else none := by
  simp [validTelegram, hlen, hbody]

/-- Section 12.2: no kind permits a body of more than 120 octets. -/
theorem kindInfo_most (kind : Octet) (i : KindInfo) (h : kindInfo kind = some i) : i.most ≤ 120 := by
  unfold kindInfo at h
  split at h <;> cases h <;> decide

theorem Telegram.permitted_length (t : Telegram) (h : t.permitted = true) : t.body.length ≤ 120 := by
  unfold Telegram.permitted at h
  split at h
  · rename_i i hi
    simp only [Bool.and_eq_true, decide_eq_true_eq] at h
    exact h.2.trans (kindInfo_most _ i hi)
  · cases h

theorem octet_of_length {k : Nat} (h : k ≤ 120) : (BitVec.ofNat 8 k).toNat = k := by
  rw [BitVec.toNat_ofNat]; omega

/-- R160: the frame of a permitted telegram is received as that telegram. -/
theorem PortRec.receiveAll_frame (r : PortRec) (t : Telegram) (h : r.assembly = []) (ht : t.permitted = true) :
    t.frame.foldl PortRec.receive r = ({ r with gapTimer := none } : PortRec).arrive t := by
  have hbody := t.permitted_length ht
  have hlen := octet_of_length hbody
  have hframe : t.frame = 0x7E :: BitVec.ofNat 8 t.body.length :: t.kind :: t.tag :: t.body ++
      octets 2 (crc16 (BitVec.ofNat 8 t.body.length :: t.kind :: t.tag :: t.body)).toNat := rfl
  rw [hframe]
  simp only [octets]
  rw [r.receiveAll_telegram _ _ _ _ _ _ h hlen hbody, validTelegram_eq _ _ _ _ _ _ hlen hbody, if_pos ⟨rfl, ht⟩,
    Option.elim_some]

/-- R3: a telegram with a wrong CRC, or of an undefined kind or length, is discarded. -/
theorem PortRec.receiveAll_invalid (r : PortRec) (kind tag c1 c2 : Octet) (body : List Octet) (h : r.assembly = [])
    (hbody : body.length ≤ 120) (hbad : Telegram.permitted ⟨kind, tag, body⟩ = false ∨
      [c1, c2] ≠ octets 2 (crc16 (BitVec.ofNat 8 body.length :: kind :: tag :: body)).toNat) :
    (0x7E :: BitVec.ofNat 8 body.length :: kind :: tag :: body ++ [c1, c2]).foldl PortRec.receive r =
      { r with gapTimer := none } := by
  have hlen := octet_of_length hbody
  rw [r.receiveAll_telegram _ _ _ _ _ _ h hlen hbody, validTelegram_eq _ _ _ _ _ _ hlen hbody, if_neg ?_,
    Option.elim_none]
  rintro ⟨hcrc, hpermitted⟩
  rcases hbad with hbad | hbad
  · rw [hpermitted] at hbad; cases hbad
  · exact hbad hcrc

/-- R9, R15: a telegram offered at the end of a step: queued, or answered BUSY, or discarded. -/
theorem PortRec.pump_offer (r : PortRec) (t : Telegram) (hfit : r.queuesFit) (hl : r.line = none → r.outbound = []) :
    (r.offer t).pump = r.queued t := by
  obtain ⟨-, -, -, hheld, hplace⟩ := hfit
  unfold PortRec.offer PortRec.queued
  split
  · exact PortRec.pump_eq_self _ hl
  · rw [PortRec.placeBusy, r.hasPlace_of_none_kept hplace]
    by_cases hreq : t.isRequest = true
    · by_cases hlen : r.outbound.length < 12
      · have hnone : r.orderHold = [] := by
          by_contra hne
          have := hheld hne
          omega
        simp only [hreq, hlen, decide_true, if_true, and_self]
        exact PortRec.pump_enqueue r _ hl hnone
      · simp only [hreq, hlen, decide_false, if_true, Bool.false_eq_true, if_false, and_false]
        exact PortRec.pump_eq_self r hl
    · rw [if_neg hreq, if_neg fun h => hreq h.1]
      exact PortRec.pump_eq_self r hl

/-- R4: at a port that is UP a valid telegram restarts the link timer and is offered. -/
theorem PortRec.arrive_up (r : PortRec) (t : Telegram) (h : r.link = .up) :
    r.arrive t = ({ r with linkTimer := some 3000 } : PortRec).offer t := by
  simp [PortRec.arrive, h, linkTime]

/-- R4: at one that is DOWN a HELLO alone is offered. -/
theorem PortRec.arrive_down (r : PortRec) (t : Telegram) (h : r.link = .down) :
    r.arrive t = if t.kind = 0x01 then r.offer t else r := by
  simp [PortRec.arrive, h]

/-- R3: a step at rest in which octets arrive at a port. -/
theorem exec_octets (s : State) (p : PortId) (l : List Octet) (h : s.ctl.atRest) :
    exec (.telegramArrival p l) s =
      .next (s.withCtl (s.ctl.setPort p (l.foldl PortRec.receive (s.ctl.port p)).pump)) := by
  simp only [exec, execTelegramArrival, State.does]
  rw [s.ctl.perform_setPort _ p _ h rfl]

end Sys2Proof.Machine

open Sys2Proof Sys2Proof.Machine in
/-- Settles O21: octets by the assembly they find, telegrams by the walk over their octets. -/
theorem telegramsAreReceived : Obligations.telegrams_are_received := by
  unfold Obligations.telegrams_are_received
  refine ⟨fun s p o h hinc => ?_, fun s p t h ha ht hfit => ?_, fun s p kind tag c1 c2 body h ha hbody hbad => ?_⟩
  · have hl : (s.ctl.port p).line = none → (s.ctl.port p).outbound = [] := h.2.2.1 p
    refine ⟨?_, ?_⟩
    · simp only [exec, execOctetArrival, State.does]
      rw [s.ctl.perform_setPort _ p ((s.ctl.port p).receive o) h rfl]
      have served : ∀ r : PortRec, (r.line = (s.ctl.port p).line) → r.outbound = (s.ctl.port p).outbound → r.pump = r :=
        fun r h₁ h₂ => PortRec.pump_eq_self r (by rw [h₁, h₂]; exact hl)
      congr 3
      rcases hasm : (s.ctl.port p).assembly with _ | ⟨a, _ | ⟨len, l⟩⟩
      · rw [PortRec.receive_first _ o hasm]
        dsimp only
        split
        · rw [served (PortRec.join _ o) rfl rfl, PortRec.join, hasm]; rfl
        · exact served _ rfl rfl
      · rw [PortRec.receive_second _ o a hasm]
        dsimp only
        split
        · exact served _ rfl rfl
        · rw [served (PortRec.join _ o) rfl rfl, PortRec.join, hasm]; rfl
      · rw [PortRec.receive_joins _ o a len l hasm (by simpa [PortRec.incomplete, hasm] using hinc),
          served (PortRec.join _ o) rfl rfl,
          PortRec.join, hasm]
        rfl
    · simp only [exec, execReceiveGapTimeout, State.does]
      rw [s.ctl.perform_setPort _ p _ h rfl]
      congr 3
      exact PortRec.pump_eq_self _ hl
  · have hl : (s.ctl.port p).line = none → (s.ctl.port p).outbound = [] := h.2.2.1 p
    rw [exec_octets s p _ h, PortRec.receiveAll_frame _ t ha ht]
    congr 3
    dsimp only
    split
    · rename_i hup
      rw [PortRec.arrive_up { s.ctl.port p with gapTimer := none } t hup]
      exact PortRec.pump_offer _ t hfit hl
    · rename_i hdown
      rw [PortRec.arrive_down { s.ctl.port p with gapTimer := none } t hdown]
      split
      · exact PortRec.pump_offer _ t hfit hl
      · exact PortRec.pump_eq_self _ hl
  · rw [exec_octets s p _ h, PortRec.receiveAll_invalid _ _ _ _ _ _ ha hbody hbad]
    congr 3
    exact PortRec.pump_eq_self _ (h.2.2.1 p)
end

section
/-! R5, R154: HELLO. -/

namespace Sys2Proof.Machine

/-! ## Steps that tell one event -/

/-- One event told, which tells nothing in turn. -/
theorem Eff.settle_one (c d : Controller) (e : Event) (hc : c.owed = []) (he : c.handle e = .of d) (hd : d.owed = []) :
    (⟨c, [e]⟩ : Eff).owe.settle = d := by
  have howed : (⟨c, [e]⟩ : Eff).owe.owed = [e] := by simp [hc]
  have hsame : ({ (⟨c, [e]⟩ : Eff).owe with owed := [] } : Controller) = c := by rw [← hc]; rfl
  rw [Controller.settle, show eventFuel = 4095 + 1 from rfl, Controller.runOwed_cons _ _ _ _ howed, hsame, he, Eff.owe_of]
  exact d.runOwed_nil _ hd

/-- A step of a controller at rest whose operation tells one event, which tells nothing in turn. -/
theorem Controller.perform_one (c d x : Controller) (f : Controller → Eff) (e : Event) (h : c.atRest)
    (hf : f c = ⟨x, [e]⟩) (hx : x.owed = []) (he : x.handle e = .of d) (hd : d.owed = []) :
    c.perform f = d.settleLines := by
  obtain ⟨hr, ho, -⟩ := h
  simp [Controller.perform, hr, c.settle_nil ho, hf, Eff.settle_one x d e hx he hd]

/-! ## The notice at a till port that goes UP (R154) -/

/-- A ring with its notice owed or not. -/
def Controller.owing (c : Controller) (owed : Bool) : Controller := { c with ring := { c.ring with noticeOwed := owed } }

/-- A ring whose notice has been sent, its pacing timer started (R154). -/
def Controller.noticed (c : Controller) : Controller :=
  { c with ring := { c.ring with noticeOwed := false, pacing := some (c.store.settings.links.pacing * 100) } }

@[simp] theorem Controller.noticed_settleLines (c : Controller) : c.noticed.settleLines = c.settleLines.noticed := rfl

@[simp] theorem Controller.owing_settleLines (c : Controller) (b : Bool) :
    (c.owing b).settleLines = c.settleLines.owing b := rfl

theorem Controller.owing_self (c : Controller) : c.owing c.ring.noticeOwed = c := rfl

/-- R154: nothing is judged without a notice owed, or while the pacing timer runs. -/
theorem Controller.judgeNotice_waits (c : Controller) (h : c.ring.noticeOwed = false ∨ c.ring.pacing.isSome = true) :
    c.judgeNotice = c := by
  rcases h with h | h <;> simp [Controller.judgeNotice, h]

/-- R154: an owed notice is dropped where no CLOSED record is held. -/
theorem Controller.judgeNotice_drops (c : Controller) (hpacing : c.ring.pacing = none)
    (hclosed : c.ring.holdsClosed = false) : c.judgeNotice = c.owing false := by
  cases howed : c.ring.noticeOwed
  · rw [c.judgeNotice_waits (.inl howed), ← howed, c.owing_self]
  · simp [Controller.judgeNotice, Controller.owing, howed, hpacing, hclosed]

/-- With a pacing timer running, or no CLOSED record held, the notice is not sent: it stays owed while the timer runs. -/
theorem Controller.ringTillUp_waits (c : Controller) (h : c.ring.holdsClosed = true → c.ring.pacing.isSome = true) :
    c.ringTillUp = c.owing (c.ring.pacing.isSome && (c.ring.noticeOwed || c.ring.holdsClosed)) := by
  unfold Controller.ringTillUp
  split
  · rename_i hclosed
    have hpacing := h hclosed
    simp only [Controller.oweNotice, hpacing, hclosed, Bool.or_true, Bool.and_self]
    exact Controller.judgeNotice_waits _ (.inr hpacing)
  · rename_i hclosed
    cases hpacing : c.ring.pacing with
    | none => simpa using c.judgeNotice_drops hpacing (by simpa using hclosed)
    | some ms =>
      rw [c.judgeNotice_waits (.inr (by simp [hpacing]))]
      simp [hclosed, c.owing_self]

/-- R154: an owed notice at a till port that is UP, with a place free and no order held: RECORDS_READY, and the pacing
timer starts. -/
theorem Controller.judgeNotice_sends (c : Controller) (howed : c.ring.noticeOwed = true) (hpacing : c.ring.pacing = none)
    (hclosed : c.ring.holdsClosed = true) (hup : (c.port tillPort).link = .up)
    (hplace : (c.port tillPort).hasPlace = true) (hheld : (c.port tillPort).orderHold = []) :
    c.judgeNotice =
      (c.setPort tillPort { c.port tillPort with
        outbound := enqueue ⟨0x63, 0, recordsReadyBody c.ring.oldest c.ring.newestClosed⟩ (c.port tillPort).outbound
        }).noticed := by
  have hsent := (PortRec.placed_in_free_place (c.port tillPort)
    ⟨0x63, 0, recordsReadyBody c.ring.oldest c.ring.newestClosed⟩ hplace hheld).2
  have hhanded : c.handNotice tillPort 0x63 (recordsReadyBody c.ring.oldest c.ring.newestClosed) =
      (c.setPort tillPort { c.port tillPort with
        outbound := enqueue ⟨0x63, 0, recordsReadyBody c.ring.oldest c.ring.newestClosed⟩ (c.port tillPort).outbound },
      true) := by
    rw [Controller.handNotice]
    split
    · rw [hsent]
    · rename_i hdown
      rw [hup] at hdown
      contradiction
  rw [Controller.judgeNotice, hhanded]
  simp [Controller.noticed, howed, hpacing, hclosed, hup]

/-- R5, R154: the till port goes UP with a CLOSED record held and no pacing timer running. -/
theorem Controller.ringTillUp_sends (c : Controller) (hpacing : c.ring.pacing = none) (hclosed : c.ring.holdsClosed = true)
    (hup : (c.port tillPort).link = .up) (hplace : (c.port tillPort).hasPlace = true)
    (hheld : (c.port tillPort).orderHold = []) :
    c.ringTillUp = (c.setPort tillPort { c.port tillPort with
      outbound := enqueue ⟨0x63, 0, recordsReadyBody c.ring.oldest c.ring.newestClosed⟩ (c.port tillPort).outbound
      }).noticed := by
  rw [Controller.ringTillUp, if_pos hclosed]
  exact (c.owing true).judgeNotice_sends rfl hpacing hclosed hup hplace hheld

/-! ## The answer to a HELLO (R5) -/

theorem nozzleOctet_eq (p : PortId) : nozzleOctet p = if p.val ≤ 1 then 0 else BitVec.ofNat 8 (p.val - 1) := by
  revert p
  decide

/-- R5: the octet of a HELLO's result. -/
theorem Controller.helloResult_code (c : Controller) (p : PortId) (role nozzle : Octet) :
    (c.helloResult p role nozzle).code = if (c.port p).service = .unused then 0x03
      else if role = (roleOf p).code ∧ nozzle = (if p.val ≤ 1 then 0 else BitVec.ofNat 8 (p.val - 1)) then 0x00
      else 0x02 := by
  simp only [Controller.helloResult, helloMatches, nozzleOctet_eq, Bool.and_eq_true, decide_eq_true_eq]
  split
  · rfl
  · exact apply_ite Result.code _ _ _

/-- A HELLO answered with result code 0 is taken. -/
theorem Controller.helloResult_ok (c : Controller) (p : PortId) (role nozzle : Octet)
    (h : (c.helloResult p role nozzle).code = 0x00) : c.helloResult p role nozzle = .ok := by
  cases hr : c.helloResult p role nozzle with
  | ok => rfl
  | _ => rw [hr] at h; exact absurd h (by decide)

/-- An answer sent leaves its port's link as it is. -/
theorem Controller.answered_link (c : Controller) (p : PortId) (rest : List Telegram) (a : Telegram) :
    ((c.answered p rest a).port p).link = (c.port p).link := by
  rw [Controller.answered, Controller.sends, Controller.port_setPort_self, PortRec.sends]
  split <;> simp [Controller.taken]

/-- At a port that is UP a notice is sent. -/
theorem Controller.notices_up (c : Controller) (p : PortId) (kind : Octet) (body : List Octet)
    (h : (c.port p).link = .up) : c.notices p kind body = c.sends p ⟨kind, 0, body⟩ := by
  rw [Controller.notices, h]

/-- A port that has gone UP. -/
def Controller.risen (c : Controller) (p : PortId) : Controller :=
  c.setPort p { c.port p with link := .up, linkTimer := some linkTime }

/-- The lines are served where a port's line and outbound queue stay as they are. -/
theorem Controller.linesServed_setPort (c : Controller) (p : PortId) (r : PortRec) (h : c.linesServed)
    (hr : r.line = none → r.outbound = []) : (c.setPort p r).linesServed := by
  intro q
  by_cases hq : q = p
  · subst hq; simpa using hr
  · simpa [c.port_setPort_ne r hq] using h q

theorem Controller.risen_linesServed (c : Controller) (p : PortId) (h : c.linesServed) : (c.risen p).linesServed :=
  c.linesServed_setPort p _ h (h p)

theorem Controller.risen_port (c : Controller) (p : PortId) :
    (c.risen p).port p = { c.port p with link := .up, linkTimer := some linkTime } := c.port_setPort_self p _

/-- R5: a HELLO that is refused, or that finds its port UP, changes nothing but its port's queues. -/
theorem exec_hello_keeps (s : State) (p : PortId) (tag role nozzle : Octet) (rest : List Telegram) (why : Result)
    (h : s.ctl.atRest) (ha : s.ctl.asked p ⟨0x01, tag, [role, nozzle]⟩ rest)
    (hwhy : s.ctl.helloResult p role nozzle = why) (hup : why = .ok → (s.ctl.port p).link = .up) :
    exec (.hello p tag role nozzle) s =
      .next (s.withCtl (s.ctl.answered p rest ⟨0x81, tag, why.code :: helloBody p⟩)) := by
  obtain ⟨-, howed, -, -⟩ := id h
  have hcarry : (s.ctl.carrying p rest).carryHello p role nozzle = ⟨.of (s.ctl.carrying p rest), why, helloBody p⟩ := by
    have hresult : (s.ctl.carrying p rest).helloResult p role nozzle = why := by
      rw [← hwhy]; simp [Controller.helloResult, Controller.carrying]
    rw [Controller.carryHello, hresult]
    cases why
    case ok => simp [Controller.goUp, Controller.carrying, hup rfl]
    all_goals rfl
  simp only [exec, execHello, State.request, telegramOf, State.does]
  rw [s.ctl.perform_request s.ctl p _ rest _ why (helloBody p) h ha rfl (everyRole_may_send p).1 rfl howed hcarry]
  rfl

/-- R5: a HELLO taken at a port that is DOWN: it goes UP, and the ring is told of the till port. -/
theorem Controller.serveRequest_hello (c : Controller) (p : PortId) (tag role nozzle : Octet) (rest : List Telegram)
    (h : c.atRest) (ha : c.asked p ⟨0x01, tag, [role, nozzle]⟩ rest) (hok : c.helloResult p role nozzle = .ok)
    (hdown : (c.port p).link = .down) :
    c.serveRequest p ⟨0x01, tag, [role, nozzle]⟩ (fun d => d.carryHello p role nozzle) =
      ⟨(c.risen p).setPort p { (c.risen p).port p with
          inbound := rest, outbound := enqueue ⟨0x81, tag, 0x00 :: helloBody p⟩ ((c.risen p).port p).outbound },
        if p = tillPort then [.tillUp] else []⟩ := by
  obtain ⟨-, howed, -, hplace⟩ := id h
  obtain ⟨hin, hlen, -, -⟩ := id ha
  have hcarry : (c.carrying p rest).carryHello p role nozzle =
      ⟨⟨(c.risen p).carrying p rest, if p = tillPort then [.tillUp] else []⟩, .ok, helloBody p⟩ := by
    have hresult : (c.carrying p rest).helloResult p role nozzle = .ok := by
      rw [← hok]; simp [Controller.helloResult, Controller.carrying]
    rw [Controller.carryHello, hresult]
    simp [Controller.goUp, Controller.carrying, Controller.risen, hdown]
  rw [c.serveRequest_asked p _ rest _ rfl ha, c.answerHead_eq p _ rest _
    ⟨⟨(c.risen p).carrying p rest, if p = tillPort then [.tillUp] else []⟩, .ok, helloBody p⟩ hin
    (by rw [(everyRole_may_send p).1]; exact hcarry),
    ← (c.risen p).carrying_answered p rest _ (by rwa [c.risen_port]) (by rw [c.risen_port]; exact hplace p)]
  rfl

/-- What the step then makes of a port other than the till's. -/
theorem exec_hello_rises (s : State) (p : PortId) (tag role nozzle : Octet) (rest : List Telegram)
    (h : s.ctl.atRest) (ha : s.ctl.asked p ⟨0x01, tag, [role, nozzle]⟩ rest)
    (hok : s.ctl.helloResult p role nozzle = .ok) (hdown : (s.ctl.port p).link = .down) (hp : p ≠ tillPort) :
    exec (.hello p tag role nozzle) s =
      .next (s.withCtl ((s.ctl.risen p).answered p rest ⟨0x81, tag, 0x00 :: helloBody p⟩)) := by
  have hs := s.ctl.serveRequest_hello p tag role nozzle rest h ha hok hdown
  obtain ⟨hpowered, howed, hlines, -⟩ := h
  obtain ⟨-, -, hheld, -⟩ := ha
  rw [if_neg hp] at hs
  simp only [exec, execHello, State.request, telegramOf, State.does]
  rw [s.ctl.perform_quiet _ hpowered howed (by rw [hs]) (by rw [hs]; exact howed), hs,
    Controller.settleLines_answered _ p _ rest (s.ctl.risen_linesServed p hlines) (by rwa [s.ctl.risen_port])]

/-- The till port that goes UP has its notice judged behind the answer. -/
theorem exec_hello_till (s : State) (d : Controller) (tag role nozzle : Octet) (rest : List Telegram)
    (h : s.ctl.atRest) (ha : s.ctl.asked tillPort ⟨0x01, tag, [role, nozzle]⟩ rest)
    (hok : s.ctl.helloResult tillPort role nozzle = .ok) (hdown : (s.ctl.port tillPort).link = .down)
    (hjudged : ((s.ctl.risen tillPort).setPort tillPort { (s.ctl.risen tillPort).port tillPort with
      inbound := rest
      outbound := enqueue ⟨0x81, tag, 0x00 :: helloBody tillPort⟩ ((s.ctl.risen tillPort).port tillPort).outbound
      }).ringTillUp = d) (hd : d.owed = []) :
    exec (.hello tillPort tag role nozzle) s = .next (s.withCtl d.settleLines) := by
  have hs := s.ctl.serveRequest_hello tillPort tag role nozzle rest h ha hok hdown
  rw [if_pos rfl] at hs
  simp only [exec, execHello, State.request, telegramOf, State.does]
  have hperform := s.ctl.perform_one d _ (fun c => c.serveRequest tillPort _ _) .tillUp h hs
  obtain ⟨-, howed, -, -⟩ := h
  rw [hperform howed (congrArg Eff.of hjudged) hd]

/-- R14: two telegrams that enter the queue of a served port one behind the other, the second not the more urgent. -/
theorem PortRec.pump_enqueue_two (r : PortRec) (a b : Telegram) (hl : r.line = none → r.outbound = [])
    (hheld : r.orderHold = []) (hab : b.priority ≤ a.priority) :
    ({ r with outbound := enqueue b (enqueue a r.outbound) } : PortRec).pump = (r.sends a).sends b := by
  cases h : r.line with
  | none => simp [PortRec.pump, PortRec.sends, h, hl h, hheld, enqueue, Nat.not_lt.2 hab]
  | some u => simp [PortRec.pump, PortRec.sends, h]

/-- What the lines make of an answer and a notice behind it. -/
theorem Controller.settleLines_answered_two (c : Controller) (p : PortId) (a b : Telegram) (rest : List Telegram)
    (hl : c.linesServed) (hheld : (c.port p).orderHold = []) (hab : b.priority ≤ a.priority) :
    (c.setPort p { c.port p with inbound := rest, outbound := enqueue b (enqueue a (c.port p).outbound) }).settleLines =
      (c.answered p rest a).sends p b := by
  have hpump := PortRec.pump_enqueue_two { c.port p with inbound := rest } a b (hl p) hheld hab
  rw [c.settleLines_setPort p _ hl]
  simp only at hpump
  rw [hpump]
  simp [Controller.answered, Controller.taken, Controller.sends]

/-- A RECORDS_READY is due behind the answer: it follows, and the pacing timer starts. -/
theorem exec_hello_notices (s : State) (tag role nozzle : Octet) (rest : List Telegram)
    (h : s.ctl.atRest) (ha : s.ctl.asked tillPort ⟨0x01, tag, [role, nozzle]⟩ rest)
    (hok : s.ctl.helloResult tillPort role nozzle = .ok) (hdown : (s.ctl.port tillPort).link = .down)
    (hlen : (s.ctl.port tillPort).outbound.length < 11) (hclosed : s.ctl.ring.holdsClosed = true)
    (hpacing : s.ctl.ring.pacing = none) :
    exec (.hello tillPort tag role nozzle) s = .next (s.withCtl
      (((s.ctl.risen tillPort).answered tillPort rest ⟨0x81, tag, 0x00 :: helloBody tillPort⟩).sends tillPort
        ⟨0x63, 0, recordsReadyBody s.ctl.ring.oldest s.ctl.ring.newestClosed⟩).noticed) := by
  obtain ⟨-, howed, hlines, hplace⟩ := id h
  obtain ⟨-, -, hheld, -⟩ := id ha
  have hport := s.ctl.risen_port tillPort
  rw [exec_hello_till s _ tag role nozzle rest h ha hok hdown (Controller.ringTillUp_sends _ hpacing hclosed
    (by simp [hport]) (by simp [hport, PortRec.hasPlace_of_none_kept, hplace tillPort]; omega)
    (by simpa [hport] using hheld)) howed, Controller.noticed_settleLines]
  have htwo := Controller.settleLines_answered_two (s.ctl.risen tillPort) tillPort ⟨0x81, tag, 0x00 :: helloBody tillPort⟩
    ⟨0x63, 0, recordsReadyBody s.ctl.ring.oldest s.ctl.ring.newestClosed⟩ rest
    (s.ctl.risen_linesServed tillPort hlines) (by rwa [hport]) (Nat.zero_le _)
  rw [← htwo, Controller.port_setPort_self, Controller.setPort_setPort]
  rfl

end Sys2Proof.Machine

open Sys2Proof Sys2Proof.Machine in
/-- Settles O25: a HELLO refused or at a port that is UP, at another port that rises, and at the till port, whose notice
waits or is sent. -/
theorem helloIsAnswered : Obligations.hello_is_answered := by
  unfold Obligations.hello_is_answered
  refine ⟨fun s p tag role nozzle rest h ha => ?_, fun s tag rest h ha hlen hservice hdown hclosed hpacing => ?_⟩
  · intro ring own fits result rises risen hpace
    have hresult : (s.ctl.helloResult p role nozzle).code = result := s.ctl.helloResult_code p role nozzle
    have hbody : result :: helloBody p = [result, BitVec.ofNat 8 p.val, (roleOf p).code, own] := by
      rw [helloBody, nozzleOctet_eq]
    rw [← hbody]
    obtain ⟨-, howed, hlines, -⟩ := id h
    obtain ⟨-, -, hheld, -⟩ := id ha
    by_cases hrises : rises
    · obtain ⟨hzero, hdown⟩ := id hrises
      have hok := s.ctl.helloResult_ok p role nozzle (hresult.trans hzero)
      rw [hzero, show risen = _ from if_pos hrises]
      by_cases hp : p = tillPort
      · subst hp
        rw [exec_hello_till s _ tag role nozzle rest h ha hok hdown (Controller.ringTillUp_waits _ (hpace rfl hrises)) howed,
          if_pos rfl, Controller.owing_settleLines, Controller.settleLines_answered
            (s.ctl.risen tillPort) tillPort _ rest (s.ctl.risen_linesServed tillPort hlines) (by rwa [s.ctl.risen_port])]
        rfl
      · rw [exec_hello_rises s p tag role nozzle rest h ha hok hdown hp, if_neg hp]
        rfl
    · rw [show risen = _ from if_neg hrises, ← hresult]
      refine exec_hello_keeps s p tag role nozzle rest _ h ha rfl fun hok => ?_
      cases hlink : (s.ctl.port p).link with
      | up => rfl
      | down => exact absurd ⟨by rw [← hresult, hok]; rfl, hlink⟩ hrises
  · intro c
    have hok : c.helloResult tillPort 0x02 0x00 = .ok := by
      rw [Controller.helloResult, hservice, if_neg (by decide), if_pos (by decide)]
    rw [Controller.notices_up _ _ _ _ (by rw [Controller.answered_link, Controller.port_setPort_self])]
    exact exec_hello_notices s tag 0x02 0x00 rest h ha hok hdown hlen hclosed hpacing

end

section
/-! R96, R112, R151, R154: the close of a fill's record, and how its end is told. -/

namespace Sys2Proof.Machine

/-! ## The record of a fill -/

/-- The ring's records with the one of a nozzle changed, if its context has an authorisation. -/
def Controller.recordsWith (c : Controller) (n : Nozzle) (g : Record → Record) : List Record :=
  (c.ctx n).auth.elim c.ring.records fun a => changed a.seq g c.ring.records

theorem Controller.recordsWith_auth (c : Controller) (n : Nozzle) (a : Authorisation) (g : Record → Record)
    (h : (c.ctx n).auth = some a) : c.recordsWith n g = changed a.seq g c.ring.records := by
  rw [Controller.recordsWith, h]
  rfl

theorem Controller.updRecordOf_eq (c : Controller) (n : Nozzle) (g : Record → Record) :
    c.updRecordOf n g = { c with ring := { c.ring with records := c.recordsWith n g } } := by
  unfold Controller.updRecordOf Controller.recordsWith
  cases (c.ctx n).auth <;> rfl

/-- Two changes of one record, the first of which leaves its number. -/
theorem changed_changed (seq : Nat) (f g : Record → Record) (l : List Record) (hf : ∀ r, (f r).seq = r.seq) :
    changed seq g (changed seq f l) = changed seq (fun r => g (f r)) l := by
  simp only [changed, List.map_map]
  refine List.map_congr_left fun r _ => ?_
  by_cases h : r.seq = seq
  · simp [h, hf]
  · simp [h]

theorem Controller.recordsWith_congr {c d : Controller} {n : Nozzle} {g : Record → Record}
    (hauth : (d.ctx n).auth = (c.ctx n).auth) (hrec : d.ring.records = c.ring.records) :
    d.recordsWith n g = c.recordsWith n g := by
  rw [Controller.recordsWith, hauth, hrec]
  rfl

/-- The record of a nozzle changed twice, its number kept at first. -/
theorem Controller.recordsWith_twice (c d : Controller) (n : Nozzle) (f g : Record → Record)
    (hf : ∀ r, (f r).seq = r.seq) (hauth : (d.ctx n).auth = (c.ctx n).auth)
    (hrec : d.ring.records = c.recordsWith n f) : d.recordsWith n g = c.recordsWith n fun r => g (f r) := by
  rw [Controller.recordsWith, hauth, hrec]
  unfold Controller.recordsWith
  cases (c.ctx n).auth with
  | none => rfl
  | some a => exact changed_changed a.seq f g c.ring.records hf

/-- The record of a number, found among records of which it has been changed. -/
theorem find_changed (seq : Nat) (f : Record → Record) (l : List Record) (hf : ∀ r, (f r).seq = r.seq) :
    (changed seq f l).find? (fun r => r.seq = seq) = (l.find? fun r => r.seq = seq).map f := by
  induction l with
  | nil => rfl
  | cons r l ih =>
    by_cases h : r.seq = seq
    · simp [changed, h, hf]
    · simpa [changed, h] using ih

/-- A fill is known by its authorisation, its record among the ring's, and its meter's limits. -/
theorem Controller.hasFill_iff (c : Controller) (n : Nozzle) (a : Authorisation) (r : Record) (f : FillLimits) :
    c.hasFill n a r f ↔ (c.ctx n).auth = some a ∧ c.ring.records.find? (fun q => q.seq = a.seq) = some r ∧
      r.closed = false ∧ (c.meter n).limits = some f := by
  unfold Controller.hasFill Controller.recordOf
  refine and_congr_right fun h => ?_
  rw [h]

/-- A fill whose record has been changed, its number and its being OPEN kept. -/
theorem Controller.hasFill.changed {c d : Controller} {n : Nozzle} {a : Authorisation} {r : Record} {f : FillLimits}
    (h : c.hasFill n a r f) (g : Record → Record) (hseq : ∀ q, (g q).seq = q.seq) (hopen : (g r).closed = r.closed)
    (hauth : (d.ctx n).auth = (c.ctx n).auth) (hrec : d.ring.records = Machine.changed a.seq g c.ring.records)
    (hmeter : d.meter n = c.meter n) : d.hasFill n a (g r) f := by
  obtain ⟨ha, hr, hc, hf⟩ := (c.hasFill_iff n a r f).1 h
  refine (d.hasFill_iff n a (g r) f).2 ⟨hauth.trans ha, ?_, hopen.trans hc, by rw [hmeter, hf]⟩
  rw [hrec, find_changed _ _ _ hseq, hr]
  rfl

theorem Controller.hasFill.of_eq {c d : Controller} {n : Nozzle} {a : Authorisation} {r : Record} {f : FillLimits}
    (h : c.hasFill n a r f) (hauth : (d.ctx n).auth = (c.ctx n).auth) (hrec : d.ring.records = c.ring.records)
    (hmeter : d.meter n = c.meter n) : d.hasFill n a r f := by
  refine (d.hasFill_iff n a r f).2 ?_
  rw [hauth, hrec, hmeter]
  exact (c.hasFill_iff n a r f).1 h

theorem Controller.hasFill.seq_eq {c : Controller} {n : Nozzle} {a : Authorisation} {r : Record} {f : FillLimits}
    (h : c.hasFill n a r f) : r.seq = a.seq := by
  obtain ⟨-, hr, -, -⟩ := (c.hasFill_iff n a r f).1 h
  simpa using List.find?_some hr

/-! ## The close of the record (R151) -/

/-- A record as the close of a fill with these limits writes it. -/
def Controller.billing (c : Controller) (f : FillLimits) (q : Record) : Record :=
  q.billedAs (c.store.settings.meter.ventFor q.nozzle q.endPressure) f.bLim c.store.clock

theorem Controller.billing_seq (c : Controller) (f : FillLimits) (q : Record) : (c.billing f q).seq = q.seq := rfl

/-- R151 steps 1 to 5: the record of a fill closed, before the notice to the till is judged. -/
def Controller.recordClosed (c : Controller) (n : Nozzle) (a : Authorisation) (r : Record) (f : FillLimits) :
    Controller :=
  { c with
    meters := c.meters.set n (c.meter n).closed
    stationTotal := (c.stationTotal + r.metered) % 2 ^ 48
    nozzleTotals := c.nozzleTotals.set n ((c.nozzleTotals[n] + r.metered) % 2 ^ 48)
    ring := { c.ring with records := changed a.seq (c.billing f) c.ring.records } }

theorem Controller.closeRecord_eq (c : Controller) (n : Nozzle) (a : Authorisation) (r : Record) (f : FillLimits)
    (h : c.hasFill n a r f) : c.closeRecord n = (c.recordClosed n a r f).oweNotice := by
  have hseq := h.seq_eq
  obtain ⟨-, hr, hc, hf⟩ := h
  rw [Controller.closeRecord, hr]
  simp only [hc, hf, hseq]
  rfl

theorem Controller.recordClosed_find (c : Controller) (n : Nozzle) (a : Authorisation) (r : Record) (f : FillLimits)
    (h : c.hasFill n a r f) :
    (c.recordClosed n a r f).ring.records.find? (fun q => q.seq = a.seq) = some (c.billing f r) := by
  obtain ⟨-, hr, -, -⟩ := (c.hasFill_iff n a r f).1 h
  show (changed a.seq _ _).find? _ = _
  rw [find_changed _ (c.billing f) _ (c.billing_seq f), hr]
  rfl

/-- A ring with the record of a fill closed holds a CLOSED record. -/
theorem Controller.recordClosed_holdsClosed (c : Controller) (n : Nozzle) (a : Authorisation) (r : Record)
    (f : FillLimits) (h : c.hasFill n a r f) : (c.recordClosed n a r f).ring.holdsClosed = true :=
  List.any_eq_true.2 ⟨_, List.mem_of_find?_eq_some (c.recordClosed_find n a r f h), rfl⟩

/-! ## Notices at a port with room -/

/-- A notice reaches its port alone. -/
theorem Controller.notice_port_ne (c : Controller) {p q : PortId} (kind : Octet) (body : List Octet) (h : q ≠ p) :
    (c.notice p kind body).port q = c.port q := by
  obtain ⟨r, hr⟩ := c.notice_frame p kind body
  rw [hr, c.port_setPort_ne r h]

/-- What a notice that goes out leaves of a port record. -/
def PortRec.noticed (r : PortRec) (t : Telegram) : PortRec :=
  if r.link = .up then { r with outbound := enqueue t r.outbound } else r

/-- R15: a notice finds a place at a port with room. -/
theorem Controller.notice_eq_noticed (c : Controller) (p : PortId) (kind : Octet) (body : List Octet)
    (hfree : (c.port p).answerPlace = false) (hroom : c.roomFor p 1) :
    c.notice p kind body = c.setPort p ((c.port p).noticed ⟨kind, 0, body⟩) := by
  rcases c.handNotice_cases p kind body with ⟨hup, h⟩ | ⟨hdown, h⟩
  · obtain ⟨hlen, hheld⟩ := hroom hup
    have hplace : (c.port p).hasPlace = true := by simp [PortRec.hasPlace_of_none_kept _ hfree]; omega
    rw [Controller.notice, h, ((c.port p).placed_in_free_place _ hplace hheld).2, PortRec.noticed, if_pos hup]
  · rw [Controller.notice, h, PortRec.noticed, if_neg (by simp [hdown]), c.setPort_port]

/-- What a notice sent leaves of its port. -/
theorem Controller.port_notices (c : Controller) (p : PortId) (kind : Octet) (body : List Octet) :
    (c.notices p kind body).port p =
      if (c.port p).link = .up then (c.port p).sends ⟨kind, 0, body⟩ else c.port p := by
  unfold Controller.notices
  split <;> rename_i h <;> simp [h, Controller.sends]

/-- R14: a notice that has entered the queue of a served port goes out. -/
theorem PortRec.pump_noticed (r : PortRec) (t : Telegram) (hl : r.line = none → r.outbound = [])
    (hheld : r.link = .up → r.orderHold = []) :
    (r.noticed t).pump = if r.link = .up then r.sends t else r := by
  unfold PortRec.noticed
  split
  · rename_i hup; exact PortRec.pump_enqueue r t hl (hheld hup)
  · exact r.pump_eq_self hl

@[simp] theorem PortRec.noticed_link (r : PortRec) (t : Telegram) : (r.noticed t).link = r.link := by
  unfold PortRec.noticed; split <;> rfl

@[simp] theorem PortRec.noticed_answerPlace (r : PortRec) (t : Telegram) :
    (r.noticed t).answerPlace = r.answerPlace := by
  unfold PortRec.noticed; split <;> rfl

@[simp] theorem PortRec.sends_link (r : PortRec) (t : Telegram) : (r.sends t).link = r.link := by
  unfold PortRec.sends; split <;> rfl

/-- Two notices, the one behind the other. -/
theorem PortRec.pump_noticed_two (r : PortRec) (t u : Telegram) (hl : r.line = none → r.outbound = [])
    (hheld : r.link = .up → r.orderHold = []) (htu : u.priority ≤ t.priority) :
    ((r.noticed t).noticed u).pump = if r.link = .up then (r.sends t).sends u else r := by
  by_cases hup : r.link = .up
  · have hfirst : r.noticed t = { r with outbound := enqueue t r.outbound } := if_pos hup
    rw [hfirst, PortRec.noticed, if_pos hup, if_pos hup]
    exact r.pump_enqueue_two t u hl (hheld hup) htu
  · have hnone : ∀ v, r.noticed v = r := fun v => if_neg hup
    rw [hnone, hnone, if_neg hup, r.pump_eq_self hl]

/-! ## The notice to the till of a record closed (R154) -/

/-- R154: a notice owed at a till port that is DOWN, or while the pacing timer runs, waits. -/
theorem Controller.oweNotice_waits (c : Controller) (hclosed : c.ring.holdsClosed = true)
    (h : c.ring.pacing.isSome = true ∨ (c.port tillPort).link = .down) : c.oweNotice = c.owing true := by
  show (c.owing true).judgeNotice = _
  cases hpacing : c.ring.pacing.isSome
  · have hdown : (c.port tillPort).link = .down := h.resolve_left (by simp [hpacing])
    have howes : ¬ (!(c.owing true).ring.noticeOwed || (c.owing true).ring.pacing.isSome) = true := by
      simp [Controller.owing, hpacing]
    have hheld : ¬ (!(c.owing true).ring.holdsClosed) = true := by
      rw [show (c.owing true).ring.holdsClosed = true from hclosed]
      decide
    rw [Controller.judgeNotice, if_neg howes, if_neg hheld]
    exact if_pos hdown
  · exact (c.owing true).judgeNotice_waits (.inr hpacing)

/-- R154: a notice owed at a till port that is UP with room, no pacing timer running, goes out. -/
theorem Controller.oweNotice_sends (c : Controller) (hclosed : c.ring.holdsClosed = true)
    (hpacing : c.ring.pacing = none) (hup : (c.port tillPort).link = .up)
    (hfree : (c.port tillPort).answerPlace = false) (hroom : c.roomFor tillPort 1) :
    c.oweNotice = (c.setPort tillPort
      ((c.port tillPort).noticed ⟨0x63, 0, recordsReadyBody c.ring.oldest c.ring.newestClosed⟩)).noticed := by
  obtain ⟨hlen, hheld⟩ := hroom hup
  have hplace : (c.port tillPort).hasPlace = true := by simp [PortRec.hasPlace_of_none_kept _ hfree]; omega
  rw [PortRec.noticed, if_pos hup]
  exact (c.owing true).judgeNotice_sends rfl hpacing hclosed hup hplace hheld

/-- A notice owed changes the till port, the notice and its timer alone. -/
theorem Controller.oweNotice_frame (c : Controller) : ∃ r owed pacing,
    c.oweNotice = { c.setPort tillPort r with ring := { c.ring with noticeOwed := owed, pacing := pacing } } := by
  show ∃ r owed pacing, (c.owing true).judgeNotice = _
  unfold Controller.judgeNotice
  split
  · exact ⟨c.port tillPort, true, c.ring.pacing, by rw [c.setPort_port]; rfl⟩
  · split
    · exact ⟨c.port tillPort, false, c.ring.pacing, by rw [c.setPort_port]; rfl⟩
    · split
      · exact ⟨c.port tillPort, true, c.ring.pacing, by rw [c.setPort_port]; rfl⟩
      · rcases (c.owing true).handNotice_cases tillPort 0x63
            (recordsReadyBody (c.owing true).ring.oldest (c.owing true).ring.newestClosed) with ⟨-, h⟩ | ⟨-, h⟩
        · rw [h]; exact ⟨_, _, _, rfl⟩
        · rw [h]; exact ⟨c.port tillPort, true, _, by rw [c.setPort_port]; rfl⟩

/-! ## A fill closed and its end told (R96, R112) -/

theorem portOfNozzle_ne_till (n : Nozzle) : portOfNozzle n ≠ tillPort := by
  revert n
  decide

theorem portOfNozzle_ne_plant (n : Nozzle) : portOfNozzle n ≠ plantPort := by
  revert n
  decide

theorem portOfNozzle_injective : Function.Injective portOfNozzle := by
  intro n m h
  revert n m
  decide

/-- FILL_ENDED is handed for the dispenser port and then for the till's. -/
theorem Controller.closeFill_eq (c : Controller) (n : Nozzle) (a : Authorisation) (r : Record) (f : FillLimits)
    (h : c.hasFill n a r f) :
    c.closeFill n = (((c.recordClosed n a r f).oweNotice.notice (portOfNozzle n) 0x62
      (fillEndedBody n (c.billing f r))).notice tillPort 0x62 (fillEndedBody n (c.billing f r))) := by
  have hrecord : (c.recordClosed n a r f).oweNotice.recordOf n = some (c.billing f r) := by
    obtain ⟨x, owed, pacing, ho⟩ := (c.recordClosed n a r f).oweNotice_frame
    have hauth : ((c.recordClosed n a r f).oweNotice.ctx n).auth = some a := by
      rw [ho]; exact h.1
    rw [Controller.recordOf, hauth, ho]
    exact c.recordClosed_find n a r f h
  rw [Controller.closeFill, c.closeRecord_eq n a r f h, Controller.noticeEnded, hrecord]

/-- What the close of a fill leaves unchanged beside its record, meter and totalisers. -/
theorem Controller.closeFill_frame (c : Controller) (n : Nozzle) (a : Authorisation) (r : Record) (f : FillLimits)
    (h : c.hasFill n a r f) :
    c.closeFill n = { c.recordClosed n a r f with
      ports := (c.closeFill n).ports
      ring := { (c.recordClosed n a r f).ring with
        noticeOwed := (c.closeFill n).ring.noticeOwed, pacing := (c.closeFill n).ring.pacing } } ∧
    ∀ q, q ≠ tillPort → q ≠ portOfNozzle n → (c.closeFill n).port q = c.port q := by
  rw [c.closeFill_eq n a r f h]
  obtain ⟨x, owed, pacing, ho⟩ := (c.recordClosed n a r f).oweNotice_frame
  obtain ⟨y, hy⟩ := (c.recordClosed n a r f).oweNotice.notice_frame (portOfNozzle n) 0x62
    (fillEndedBody n (c.billing f r))
  constructor
  · rw [hy]
    obtain ⟨z, hz⟩ := ((c.recordClosed n a r f).oweNotice.setPort (portOfNozzle n) y).notice_frame tillPort 0x62
      (fillEndedBody n (c.billing f r))
    rw [hz, ho]
    rfl
  · intro q htill hnozzle
    rw [Controller.notice_port_ne _ _ _ htill, Controller.notice_port_ne _ _ _ hnozzle, ho]
    exact c.port_setPort_ne x htill

/-- What the close of a fill leaves of the ring: its record closed, and the notice and its timer. -/
theorem Controller.closeFill_ring_eq (c : Controller) (n : Nozzle) (a : Authorisation) (r : Record) (f : FillLimits)
    (h : c.hasFill n a r f) :
    (c.closeFill n).ring = { c.ring with
      records := changed a.seq (c.billing f) c.ring.records
      noticeOwed := (c.closeFill n).ring.noticeOwed, pacing := (c.closeFill n).ring.pacing } :=
  congrArg Controller.ring (c.closeFill_frame n a r f h).1

/-- R96: FILL_ENDED enters the queue of a dispenser port with room. -/
theorem Controller.closeFill_port_dispenser (c : Controller) (n : Nozzle) (a : Authorisation) (r : Record)
    (f : FillLimits) (h : c.hasFill n a r f) (hfree : (c.port (portOfNozzle n)).answerPlace = false)
    (hroom : c.roomFor (portOfNozzle n) 1) :
    (c.closeFill n).port (portOfNozzle n) =
      (c.port (portOfNozzle n)).noticed ⟨0x62, 0, fillEndedBody n (c.billing f r)⟩ := by
  have hport : (c.recordClosed n a r f).oweNotice.port (portOfNozzle n) = c.port (portOfNozzle n) := by
    obtain ⟨x, owed, pacing, ho⟩ := (c.recordClosed n a r f).oweNotice_frame
    rw [ho]
    exact c.port_setPort_ne x (portOfNozzle_ne_till n)
  rw [c.closeFill_eq n a r f h, Controller.notice_port_ne _ _ _ (portOfNozzle_ne_till n),
    Controller.notice_eq_noticed _ _ _ _ (by rwa [hport]) (by unfold Controller.roomFor; rwa [hport]),
    Controller.port_setPort_self, hport]

/-- A notice leaves the ring as it is. -/
theorem Controller.notice_ring (c : Controller) (p : PortId) (kind : Octet) (body : List Octet) :
    (c.notice p kind body).ring = c.ring := by
  obtain ⟨r, hr⟩ := c.notice_frame p kind body
  rw [hr]
  rfl

theorem Controller.closeFill_ring (c : Controller) (n : Nozzle) (a : Authorisation) (r : Record) (f : FillLimits)
    (h : c.hasFill n a r f) : (c.closeFill n).ring = (c.recordClosed n a r f).oweNotice.ring := by
  rw [c.closeFill_eq n a r f h, Controller.notice_ring, Controller.notice_ring]

/-- R96: FILL_ENDED enters the queue of a till port with room behind what the close has sent there. -/
theorem Controller.closeFill_port_till (c : Controller) (n : Nozzle) (a : Authorisation) (r : Record)
    (f : FillLimits) (x : PortRec) (h : c.hasFill n a r f)
    (hx : (c.recordClosed n a r f).oweNotice.port tillPort = x) (hfree : x.answerPlace = false)
    (hroom : x.link = .up → x.outbound.length + 1 ≤ 12 ∧ x.orderHold = []) :
    (c.closeFill n).port tillPort = x.noticed ⟨0x62, 0, fillEndedBody n (c.billing f r)⟩ := by
  have hport : ((c.recordClosed n a r f).oweNotice.notice (portOfNozzle n) 0x62
      (fillEndedBody n (c.billing f r))).port tillPort = x := by
    rw [Controller.notice_port_ne _ _ _ (portOfNozzle_ne_till n).symm, hx]
  rw [c.closeFill_eq n a r f h, Controller.notice_eq_noticed _ _ _ _ (by rwa [hport])
    (by unfold Controller.roomFor; rwa [hport]), Controller.port_setPort_self, hport]

/-- Where the till's notice waits, FILL_ENDED alone is told to the till. -/
theorem Controller.closeFill_waits (c : Controller) (n : Nozzle) (a : Authorisation) (r : Record) (f : FillLimits)
    (h : c.hasFill n a r f) (hfree : (c.port tillPort).answerPlace = false) (hroom : c.roomFor tillPort 2)
    (hwaits : c.ring.pacing.isSome = true ∨ (c.port tillPort).link = .down) :
    (c.closeFill n).ring.noticeOwed = true ∧ (c.closeFill n).ring.pacing = c.ring.pacing ∧
      (c.closeFill n).port tillPort = (c.port tillPort).noticed ⟨0x62, 0, fillEndedBody n (c.billing f r)⟩ := by
  have howes := (c.recordClosed n a r f).oweNotice_waits (c.recordClosed_holdsClosed n a r f h) hwaits
  rw [c.closeFill_ring n a r f h, howes]
  refine ⟨rfl, rfl, c.closeFill_port_till n a r f _ h (by rw [howes]; rfl) hfree fun hup => ?_⟩
  obtain ⟨hlen, hheld⟩ := hroom hup
  exact ⟨by omega, hheld⟩

/-- Where it goes out, FILL_ENDED goes behind it. -/
theorem Controller.closeFill_sends (c : Controller) (n : Nozzle) (a : Authorisation) (r : Record) (f : FillLimits)
    (h : c.hasFill n a r f) (hfree : (c.port tillPort).answerPlace = false) (hroom : c.roomFor tillPort 2)
    (hpacing : c.ring.pacing = none) (hup : (c.port tillPort).link = .up) :
    (c.closeFill n).ring.noticeOwed = false ∧
      (c.closeFill n).ring.pacing = some (c.store.settings.links.pacing * 100) ∧
      (c.closeFill n).port tillPort =
        ((c.port tillPort).noticed ⟨0x63, 0, recordsReadyBody (c.closeFill n).ring.oldest
          (c.closeFill n).ring.newestClosed⟩).noticed ⟨0x62, 0, fillEndedBody n (c.billing f r)⟩ := by
  obtain ⟨hlen, hheld⟩ := hroom hup
  have howes := (c.recordClosed n a r f).oweNotice_sends (c.recordClosed_holdsClosed n a r f h) hpacing hup hfree
    fun _ => ⟨Nat.le_of_succ_le hlen, hheld⟩
  rw [c.closeFill_ring n a r f h, howes]
  refine ⟨rfl, rfl, c.closeFill_port_till n a r f _ h (by rw [howes]; exact Controller.port_setPort_self _ _ _) ?_ ?_⟩
  · rwa [PortRec.noticed_answerPlace]
  · intro _
    rw [PortRec.noticed, show (c.recordClosed n a r f).port tillPort = c.port tillPort from rfl, if_pos hup]
    exact ⟨by simp only [enqueue_length]; omega, hheld⟩

/-- What two notices sent leave of their port. -/
theorem Controller.port_notices_two (c : Controller) (p : PortId) (k₁ k₂ : Octet) (b₁ b₂ : List Octet)
    (hup : (c.port p).link = .up) :
    ((c.notices p k₁ b₁).notices p k₂ b₂).port p = ((c.port p).sends ⟨k₁, 0, b₁⟩).sends ⟨k₂, 0, b₂⟩ := by
  rw [Controller.port_notices, Controller.port_notices, if_pos hup, PortRec.sends_link, if_pos hup]

/-- The lines of a controller at the two ports at which the end of a fill is told: served, and no place kept. -/
abbrev Controller.tellsAt (c : Controller) (p : PortId) : Prop :=
  ((c.port p).line = none → (c.port p).outbound = []) ∧ (c.port p).answerPlace = false

/-- R96, R154: the close of a fill tells its end, seen from any state that has the same till, dispenser port, pacing
timer and pacing time. -/
theorem Controller.closeFill_tells (c c₀ d : Controller) (n : Nozzle) (a : Authorisation) (r : Record) (f : FillLimits)
    (h : c.hasFill n a r f) (hnozzle : c.tellsAt (portOfNozzle n)) (htill : c.tellsAt tillPort)
    (hn₀ : c₀.port (portOfNozzle n) = c.port (portOfNozzle n)) (ht₀ : c₀.port tillPort = c.port tillPort)
    (hpacing₀ : c₀.ring.pacing = c.ring.pacing) (hstore₀ : c₀.store = c.store)
    (hn : d.port (portOfNozzle n) = ((c.closeFill n).port (portOfNozzle n)).pump)
    (ht : d.port tillPort = ((c.closeFill n).port tillPort).pump) (hring : d.ring = (c.closeFill n).ring) :
    c₀.endIsTold d n (c.billing f r) := by
  obtain ⟨hln, hfn⟩ := hnozzle
  obtain ⟨hlt, hft⟩ := htill
  refine ⟨fun hroom => ?_, fun hroom => ⟨fun hwaits => ?_, fun hpacing hup => ?_⟩⟩
  · rw [Controller.roomFor, hn₀] at hroom
    rw [hn, c.closeFill_port_dispenser n a r f h hfn hroom, PortRec.pump_noticed _ _ hln fun hup => (hroom hup).2,
      Controller.port_notices, hn₀]
    rfl
  · rw [Controller.roomFor, ht₀] at hroom
    rw [ht₀, hpacing₀] at hwaits
    obtain ⟨howed, hp, hport⟩ := c.closeFill_waits n a r f h hft hroom hwaits
    rw [hring, hpacing₀]
    refine ⟨howed, hp, ?_⟩
    rw [ht, hport, PortRec.pump_noticed _ _ hlt fun hup => (hroom hup).2, Controller.port_notices, ht₀]
    rfl
  · rw [Controller.roomFor, ht₀] at hroom
    rw [ht₀] at hup
    rw [hpacing₀] at hpacing
    obtain ⟨howed, hp, hport⟩ := c.closeFill_sends n a r f h hft hroom hpacing hup
    rw [hring, hstore₀]
    refine ⟨howed, hp, ?_⟩
    rw [ht, hport, PortRec.pump_noticed_two _ _ _ hlt (fun hup => (hroom hup).2) (Nat.zero_le _), if_pos hup,
      Controller.port_notices_two _ _ _ _ _ _ (by rwa [ht₀]), ht₀]
    rfl

/-! ## What the close of a fill leaves unchanged, whatever its record -/

theorem Controller.closeRecord_frame (c : Controller) (n : Nozzle) :
    (∃ r meters station totals ring, c.closeRecord n = { c.setPort tillPort r with
      meters := meters, stationTotal := station, nozzleTotals := totals, ring := ring }) := by
  unfold Controller.closeRecord
  split
  · exact ⟨c.port tillPort, _, _, _, _, by rw [c.setPort_port]⟩
  · split
    · exact ⟨c.port tillPort, _, _, _, _, by rw [c.setPort_port]⟩
    · obtain ⟨x, owed, pacing, h⟩ := Controller.oweNotice_frame _
      rw [h]
      exact ⟨x, _, _, _, _, rfl⟩

/-- The notices of an end change the ports alone. -/
theorem Controller.noticeEnded_frame (c : Controller) (n : Nozzle) :
    (∃ ports, c.noticeEnded n = { c with ports := ports }) ∧
      ∀ q, q ≠ tillPort → q ≠ portOfNozzle n → (c.noticeEnded n).port q = c.port q := by
  unfold Controller.noticeEnded
  split
  · rename_i r _
    refine ⟨?_, fun q htill hnozzle => ?_⟩
    · obtain ⟨x, hx⟩ := c.notice_frame (portOfNozzle n) 0x62 (fillEndedBody n r)
      rw [hx]
      obtain ⟨y, hy⟩ := (c.setPort (portOfNozzle n) x).notice_frame tillPort 0x62 (fillEndedBody n r)
      rw [hy]
      exact ⟨_, rfl⟩
    · rw [Controller.notice_port_ne _ _ _ htill, Controller.notice_port_ne _ _ _ hnozzle]
  · exact ⟨⟨_, rfl⟩, fun _ _ _ => rfl⟩

/-- The close of a fill changes no port but the till's and the dispenser's. -/
theorem Controller.closeFill_keeps (c : Controller) (n : Nozzle) :
    (∃ ports meters station totals ring, c.closeFill n = { c with
      ports := ports, meters := meters, stationTotal := station, nozzleTotals := totals, ring := ring }) ∧
    ∀ q, q ≠ tillPort → q ≠ portOfNozzle n → (c.closeFill n).port q = c.port q := by
  obtain ⟨⟨ports, hports⟩, hkept⟩ := (c.closeRecord n).noticeEnded_frame n
  obtain ⟨x, meters, station, totals, ring, h⟩ := c.closeRecord_frame n
  refine ⟨⟨ports, meters, station, totals, ring, ?_⟩, fun q htill hnozzle => ?_⟩
  · rw [Controller.closeFill, hports, h]
    rfl
  · rw [Controller.closeFill, hkept q htill hnozzle, h]
    exact c.port_setPort_ne x htill

end Sys2Proof.Machine
end

section
/-! R52, R96, R105, R110, R112: a fill closed without flow, taken into ENDING, or closed at its end. -/

namespace Sys2Proof.Machine

/-! ## The precool release (R52) -/

/-- A nozzle's next-holder places cleared, record by record. -/
theorem Allocator.clearNextHolder_banks (a : Allocator) (n : Nozzle) :
    (a.clearNextHolder n).banks = (a.without n).banks := by
  refine congrArg Vector.ofFn (funext fun b => ?_)
  show (if isNextHolder n a.banks[b] then _ else _) = _
  split <;> rfl

/-- A nozzle that stands nowhere in an account is not taken from it. -/
theorem Allocator.without_of_not_knows (a : Allocator) (n : Nozzle) (h : a.knows n = false) : a.without n = a := by
  simp only [Allocator.knows, Bool.or_eq_false_iff, decide_eq_false_iff_not, Nat.not_lt, Nat.le_zero,
    List.any_eq_false, beq_iff_eq, Allocator.nextHolderAnywhere] at h
  obtain ⟨⟨⟨⟨hreserved, hprecool⟩, hbank⟩, hparked⟩, hnext⟩ := h
  have hbanks : (a.without n).banks = a.banks := by
    refine Vector.ext fun i hi => ?_
    have hnot : ¬ isNextHolder n a.banks[i] = true := hnext _ (by simp)
    simp [Allocator.without, hnot]
  have hreservations : a.reservations.set n 0 = a.reservations := by
    rw [← hreserved]
    exact Vector.set_getElem_self n.isLt
  have hlist : ∀ {κ : Type} (l : List κ) (f : κ → Nozzle), (∀ k ∈ l, ¬ f k = n) → (l.filter fun k => f k != n) = l :=
    fun l f hl => List.filter_eq_self.2 fun k hk => bne_iff_ne.2 (hl k hk)
  have hpark : a.parked.set n none = a.parked := by
    rw [← Option.not_isSome_iff_eq_none.1 (by rw [hparked]; decide)]
    exact Vector.set_getElem_self n.isLt
  show { a with
    banks := (a.without n).banks, reservations := a.reservations.set n 0
    precoolList := a.precoolList.filter fun k => k.nozzle != n
    bankList := a.bankList.filter fun k => k.nozzle != n, parked := a.parked.set n none } = a
  rw [hbanks, hreservations, hlist _ _ hprecool, hlist _ _ hbank, hpark]

/-- A nozzle taken from the account leaves every bank record but for the next holder. -/
theorem Controller.bank_of_without {c d : Controller} {n : Nozzle} (h : d.alloc = c.alloc.without n) (b : BankId) :
    d.bank b = { c.bank b with
      nextHolder := if isNextHolder n (c.bank b) then none else (c.bank b).nextHolder } := by
  rw [Controller.bank, h]
  exact Vector.getElem_ofFn b.isLt

theorem Controller.precoolRelease_ctl (c : Controller) (n : Nozzle) :
    (c.precoolRelease n).ctl = { c with alloc := c.alloc.without n } := by
  unfold Controller.precoolRelease
  cases hknown : c.alloc.knows n
  · simp [c.alloc.without_of_not_knows n hknown]
  · simp only [if_true]
    rw [c.alloc.clearNextHolder_banks n]
    rfl

theorem Controller.precoolRelease_events (c : Controller) (n : Nozzle) :
    (c.precoolRelease n).events = if c.alloc.knows n then [.grantPass false] else [] := by
  unfold Controller.precoolRelease
  split <;> rfl

/-! ## The steps whose one event is the grant pass of a release -/

/-- R51: with nobody waiting a grant pass finds nothing to do. -/
theorem Controller.grantPass_calm (c : Controller) (hlist : c.alloc.precoolList = [])
    (hclaim : c.alloc.compressorClaim = none) : c.handle (.grantPass false) = .of c := by
  simp [Controller.handle, Controller.grantPass, Controller.grantHead, Controller.endPass, hlist, hclaim]

/-- A step of a controller at rest that tells of a grant pass at most, with nobody waiting, is its own operation, and
then the lines. -/
theorem Controller.perform_calm (c : Controller) (f : Controller → Eff) (h : c.atRest)
    (hevents : (f c).events = [] ∨ (f c).events = [.grantPass false]) (howed : (f c).ctl.owed = [])
    (hlist : (f c).ctl.alloc.precoolList = []) (hclaim : (f c).ctl.alloc.compressorClaim = none) :
    c.perform f = (f c).ctl.settleLines := by
  rcases hevents with hnone | hpass
  · exact c.perform_quiet f h.1 h.2.1 hnone howed
  · exact c.perform_one _ (f c).ctl f _ h (by rw [← hpass]) howed ((f c).ctl.grantPass_calm hlist hclaim) howed

/-! ## A fill closed without flow (R96) -/

/-- A record with its end reason. -/
def Record.withReason (why : EndReason) (q : Record) : Record := { q with endReason := some why }

@[simp] theorem Record.withReason_seq (why : EndReason) (q : Record) : (q.withReason why).seq = q.seq := rfl

/-- The end reason of a fill, in its context and in its record. -/
theorem Controller.setReason_eq (c : Controller) (n : Nozzle) (why : EndReason) :
    c.setReason n why = { c with
      contexts := c.contexts.set n { c.ctx n with endReason := some why }
      ring := { c.ring with records := c.recordsWith n (Record.withReason why) } } := by
  have hrecords : (c.updCtx n fun x => { x with endReason := some why }).recordsWith n (Record.withReason why) =
      c.recordsWith n (Record.withReason why) := by
    simp [Controller.recordsWith]
  rw [Controller.setReason, show (fun r : Record => { r with endReason := some why }) = Record.withReason why from rfl,
    Controller.updRecordOf_eq, hrecords]
  rfl

/-- The fill of `c` as its close without flow finds it: its waits over, its reason written, out of the account. -/
def Controller.withoutFlow (c : Controller) (n : Nozzle) (why : EndReason) : Controller :=
  { c with
    contexts := c.contexts.set n { c.ctx n with connectWait := none, resourceWait := none, endReason := some why }
    alloc := c.alloc.without n
    ring := { c.ring with records := c.recordsWith n (Record.withReason why) } }

/-- A context whose fill has been closed without flow: without its authorisation, CONNECTED or IDLE. -/
def Context.closedWithoutFlow (x : Context) : Context :=
  { x with auth := none, state := if x.connected then .connected else .idle }

/-- One context written twice, the second time from the first. -/
theorem contexts_set_set (l : Vector Context 6) (n : Nozzle) (x : Context) (g : Context → Context) :
    (l.set n x).set n (g (l.set n x)[n]) = l.set n (g x) := by
  simp

theorem Controller.contexts_updCtx (c : Controller) (n : Nozzle) (g : Context → Context) :
    (c.updCtx n g).contexts = c.contexts.set n (g c.contexts[n]) := rfl

theorem Controller.setReason_withoutFlow (c : Controller) (n : Nozzle) (why : EndReason) :
    (c.updCtx n fun x => { x with connectWait := none, resourceWait := none }).setReason n why =
      { c.withoutFlow n why with alloc := c.alloc } := by
  have hrecords : (c.updCtx n fun x => { x with connectWait := none, resourceWait := none }).recordsWith n
      (Record.withReason why) = c.recordsWith n (Record.withReason why) := by
    simp [Controller.recordsWith]
  rw [Controller.setReason_eq, hrecords]
  exact congrArg (fun l => ({ c with
      contexts := l, ring := { c.ring with records := c.recordsWith n (Record.withReason why) } } : Controller))
    (contexts_set_set c.contexts n _ fun x => { x with endReason := some why })

theorem Controller.closeWithoutFlow_eq (c : Controller) (n : Nozzle) (why : EndReason) :
    (c.closeWithoutFlow n why).ctl = ((c.withoutFlow n why).closeFill n).updCtx n Context.closedWithoutFlow := by
  rw [Controller.closeWithoutFlow, Eff.change_ctl, c.setReason_withoutFlow n why, Controller.precoolRelease_ctl]
  rfl

/-- R52: the grant pass follows where the fill stood in the account. -/
theorem Controller.closeWithoutFlow_events (c : Controller) (n : Nozzle) (why : EndReason) :
    (c.closeWithoutFlow n why).events = if c.alloc.knows n then [.grantPass false] else [] := by
  rw [Controller.closeWithoutFlow, Eff.change_events, c.setReason_withoutFlow n why, Controller.precoolRelease_events]

/-- A fill keeps its record through a change of its reason and of its place in the account. -/
theorem Controller.hasFill.withoutFlow {c : Controller} {n : Nozzle} {a : Authorisation} {r : Record} {f : FillLimits}
    (h : c.hasFill n a r f) (why : EndReason) : (c.withoutFlow n why).hasFill n a (r.withReason why) f :=
  h.changed (d := c.withoutFlow n why) (Record.withReason why) (fun _ => rfl) rfl
    (by simp [Controller.withoutFlow, Controller.ctx]) (c.recordsWith_auth n a _ h.1) rfl

/-- The lines settled leave all but the ports. -/
theorem Controller.settleLines_eq (c : Controller) : c.settleLines = { c with ports := c.settleLines.ports } := rfl

/-- Two controllers that differ in their contexts and their ring at most. -/
theorem Controller.eq_of_contexts_ring {c d : Controller} (h : d = { c with contexts := d.contexts, ring := d.ring })
    (hcontexts : d.contexts = c.contexts) (hring : d.ring = c.ring) : d = c := by
  rw [h, hcontexts, hring]

/-- R96: what the close without flow of a fill leaves. -/
theorem Controller.closeWithoutFlow_closes (c : Controller) (n : Nozzle) (a : Authorisation) (r : Record)
    (f : FillLimits) (why : EndReason) (h : c.hasFill n a r f) (hl : c.linesServed)
    (hfree : ∀ p, (c.port p).answerPlace = false) :
    c.closesFill (c.closeWithoutFlow n why).ctl.settleLines n a r f why := by
  have hfill := h.withoutFlow why
  obtain ⟨heq, hports⟩ := (c.withoutFlow n why).closeFill_frame n a _ f hfill
  rw [c.closeWithoutFlow_eq n why]
  refine ⟨?_, fun q htill hnozzle => ?_, ?_⟩
  · refine Controller.eq_of_contexts_ring ?_ ?_ ?_
    · rw [Controller.settleLines_eq, Controller.updCtx, heq]
      rfl
    · have hcontexts : ((c.withoutFlow n why).closeFill n).contexts = (c.withoutFlow n why).contexts := by rw [heq]; rfl
      rw [Controller.settleLines_contexts, Controller.contexts_updCtx, hcontexts]
      exact contexts_set_set c.contexts n _ Context.closedWithoutFlow
    · refine ((c.withoutFlow n why).closeFill_ring_eq n a _ f hfill).trans ?_
      show ({ c.ring with records := _, noticeOwed := _, pacing := _ } : Ring) = _
      rw [show (c.withoutFlow n why).ring.records = changed a.seq (Record.withReason why) c.ring.records from
          c.recordsWith_auth n a _ h.1, changed_changed _ (Record.withReason why) _ _ (Record.withReason_seq why)]
      rfl
  · rw [Controller.port_settleLines, Controller.updCtx_port, hports q htill hnozzle]
    exact PortRec.pump_eq_self _ (hl q)
  · exact (c.withoutFlow n why).closeFill_tells c _ n a _ f hfill ⟨hl _, hfree _⟩ ⟨hl _, hfree _⟩ rfl rfl rfl rfl
      (by rw [Controller.port_settleLines, Controller.updCtx_port])
      (by rw [Controller.port_settleLines, Controller.updCtx_port]) rfl

/-! ## A fill closed at the end of its ENDING (R112) -/

/-- A context whose fill has been closed with flow: COMPLETE, or IDLE where the nozzle has been hung up. -/
def Context.closedAtEnd (x : Context) : Context :=
  { x with
    progressTimer := none, auth := if x.hangSeen then none else x.auth
    state := if x.hangSeen then .idle else .complete }

/-- R112: vent and bank both settled, the fill is closed. -/
theorem Controller.settleEnding_settled (c : Controller) (n : Nozzle) (hstate : (c.ctx n).state = .ending)
    (hvent : (c.ctx n).ventSettled = true) (hbank : (c.ctx n).bankSettled = true) :
    c.settleEnding n = (c.closeFill n).updCtx n Context.closedAtEnd := by
  rw [Controller.settleEnding, if_pos ⟨hstate, hvent, hbank⟩]
  rfl

/-- R112: a fill whose vent is not settled stays in ENDING. -/
theorem Controller.settleEnding_waits (c : Controller) (n : Nozzle) (h : (c.ctx n).ventSettled = false) :
    c.settleEnding n = c := by
  rw [Controller.settleEnding, if_neg fun hs => by rw [h] at hs; exact absurd hs.2.1 (by decide)]

/-- R112: what the close of a fill at the end of its ENDING leaves. -/
theorem Controller.settleEnding_closes (c : Controller) (n : Nozzle) (a : Authorisation) (r : Record) (f : FillLimits)
    (h : c.hasFill n a r f) (hl : c.linesServed) (hfree : ∀ p, (c.port p).answerPlace = false)
    (hstate : (c.ctx n).state = .ending) (hvent : (c.ctx n).ventSettled = true)
    (hbank : (c.ctx n).bankSettled = true) :
    c.fillCloses (c.settleEnding n).settleLines n a r f ∧
      c.endIsTold (c.settleEnding n).settleLines n (c.billing f r) := by
  obtain ⟨heq, hports⟩ := c.closeFill_frame n a r f h
  rw [c.settleEnding_settled n hstate hvent hbank]
  refine ⟨⟨?_, fun q htill hnozzle => ?_⟩, ?_⟩
  · refine Controller.eq_of_contexts_ring ?_ ?_ (c.closeFill_ring_eq n a r f h)
    · rw [Controller.settleLines_eq, Controller.updCtx, heq]
      rfl
    · have hcontexts : (c.closeFill n).contexts = c.contexts := by rw [heq]; rfl
      rw [Controller.settleLines_contexts, Controller.contexts_updCtx, hcontexts]
      show c.contexts.set n (c.ctx n).closedAtEnd = _
      rw [Context.closedAtEnd, h.1]
  · rw [Controller.port_settleLines, Controller.updCtx_port, hports q htill hnozzle]
    exact PortRec.pump_eq_self _ (hl q)
  · exact c.closeFill_tells c _ n a r f h ⟨hl _, hfree _⟩ ⟨hl _, hfree _⟩ rfl rfl rfl rfl
      (by rw [Controller.port_settleLines, Controller.updCtx_port])
      (by rw [Controller.port_settleLines, Controller.updCtx_port]) rfl

/-! ## Orders handed (R16) -/

/-- A port record with an order handed for it: its tag taken, and the order placed where the port is UP. -/
def PortRec.ordered (r : PortRec) (kind : Octet) (body : List Octet) : PortRec :=
  if r.link = .up then { r with tagCounter := r.tagCounter + 1 }.placeOrder ⟨kind, r.tagCounter, body⟩
  else { r with tagCounter := r.tagCounter + 1 }

theorem Controller.handOrder_eq (c : Controller) (p : PortId) (kind : Octet) (body : List Octet) :
    c.handOrder p kind body = (c.setPort p ((c.port p).ordered kind body), (c.port p).tagCounter) := by
  obtain ⟨htag, ⟨hup, h⟩ | ⟨hdown, h⟩⟩ := c.handOrder_cases p kind body
  · exact Prod.ext (by rw [h, PortRec.ordered, if_pos hup]) htag
  · exact Prod.ext (by rw [h, PortRec.ordered, if_neg (by simp [hdown])]) htag

/-- R14: an order placed at a served port with room goes out. -/
theorem PortRec.pump_placeOrder (r : PortRec) (t : Telegram) (hl : r.line = none → r.outbound = [])
    (hfree : r.answerPlace = false) (hlen : r.outbound.length < 12) (hheld : r.orderHold = []) :
    (r.placeOrder t).pump = r.sends t := by
  have hplace : r.hasPlace = true := by simpa [r.hasPlace_of_none_kept hfree] using hlen
  rw [(r.placed_in_free_place t hplace hheld).1]
  exact r.pump_enqueue t hl hheld

/-- R14, R16: an order handed for a served port with room goes out. -/
theorem Controller.pump_ordered (c : Controller) (p : PortId) (kind : Octet) (body : List Octet)
    (hl : (c.port p).line = none → (c.port p).outbound = []) (hfree : (c.port p).answerPlace = false)
    (hroom : c.room p) : ((c.port p).ordered kind body).pump = (c.orders p kind body).port p := by
  unfold Controller.orders PortRec.ordered
  cases hlink : (c.port p).link with
  | up =>
    obtain ⟨hlen, hheld⟩ := hroom hlink
    have hpump := PortRec.pump_placeOrder { c.port p with tagCounter := (c.port p).tagCounter + 1 }
      ⟨kind, (c.port p).tagCounter, body⟩ hl hfree hlen hheld
    simpa [hlink] using hpump
  | down =>
    simpa [hlink] using PortRec.pump_eq_self { c.port p with tagCounter := (c.port p).tagCounter + 1 } hl

end Sys2Proof.Machine
end

section
/-! R41, R105, R110: the release of a fill's bank, and the entry of a fill into ENDING. -/

namespace Sys2Proof.Machine

/-! ## The release of a bank asked for (R41) -/

/-- Whether a release asked for hands an order at once: the bank is held, with no order in flight and no release
pending. -/
def BankRec.freedNow (r : BankRec) (h : Holder) : Prop := r.holder = some h ∧ r.order = none ∧ r.releasePending = false

/-- The body of the CLOSE order of a bank that a nozzle holds. -/
theorem bankValveBody_close (b : BankId) (n : Nozzle) (generation : Octet) :
    bankValveBody b (.nozzle n) .closed generation 0 =
      [BitVec.ofNat 8 (b.val + 1), BitVec.ofNat 8 (n.val + 1), 0x02, generation, 0, 0, 0] := rfl

/-- R41: the release hands the bank's CLOSE. -/
theorem Controller.releaseBank_sends (c : Controller) (b : BankId) (n : Nozzle) (h : (c.bank b).freedNow (.nozzle n)) :
    c.releaseBank b (.nozzle n) = { c.setPort plantPort ((c.port plantPort).ordered 0x50
        [BitVec.ofNat 8 (b.val + 1), BitVec.ofNat 8 (n.val + 1), 0x02, (c.bank b).generation, 0, 0, 0]) with
      alloc := { c.alloc with
        banks := c.alloc.banks.set b ((c.bank b).released (.nozzle n) (c.port plantPort).tagCounter c.orderTime) } } := by
  obtain ⟨hholder, horder, hpending⟩ := h
  have hreleased : (c.bank b).released (.nozzle n) (c.port plantPort).tagCounter c.orderTime = { c.bank b with
      order := some ⟨.closed, (c.port plantPort).tagCounter, .nozzle n, (c.bank b).generation, some c.orderTime⟩ } := by
    simp [BankRec.released, hholder, horder, hpending]
  have hsent : c.releaseBank b (.nozzle n) = c.handValve b (.nozzle n) .closed := by
    simp [Controller.releaseBank, hholder, horder, hpending]
  rw [hsent, hreleased, Controller.handValve, show c.limitPressure b (.nozzle n) .closed = 0 from rfl,
    bankValveBody_close, Controller.handOrder_eq]
  rfl

/-- R41: a release of any other bank record is noted there at most. -/
theorem Controller.releaseBank_notes (c : Controller) (b : BankId) (n : Nozzle)
    (h : ¬ (c.bank b).freedNow (.nozzle n)) :
    c.releaseBank b (.nozzle n) = { c with
      alloc := { c.alloc with
        banks := c.alloc.banks.set b ((c.bank b).released (.nozzle n) (c.port plantPort).tagCounter c.orderTime) } } := by
  have hself : c.setBank b (c.bank b) = c := by
    simp [Controller.setBank, Controller.bank]
  show _ = c.setBank b ((c.bank b).released (.nozzle n) (c.port plantPort).tagCounter c.orderTime)
  unfold Controller.releaseBank BankRec.released
  by_cases hholder : (c.bank b).holder = some (.nozzle n)
  · simp only [hholder, ne_eq, not_true_eq_false, if_false]
    cases horder : (c.bank b).order with
    | none =>
      have hpending : (c.bank b).releasePending = true :=
        Bool.eq_true_of_not_eq_false fun hp => h ⟨hholder, horder, hp⟩
      simp [hpending, hself]
    | some o =>
      cases hpending : (c.bank b).releasePending
      · by_cases hopen : o.action = .opened
        · simp [hopen, Controller.updBank, hholder, horder]
        · simp [hopen, hself]
      · simp [hself]
  · simp [hholder, hself]

/-- R110, R114: the bank of a fill asked for its release. -/
def Controller.bankAsked (c : Controller) (n : Nozzle) : Controller :=
  (c.ctx n).currentBank.elim c fun ref => c.releaseBank ref.bank (.nozzle n)

/-- The bank records once a nozzle has asked for the release of its bank. -/
def Controller.banksAsked (c : Controller) (n : Nozzle) : Vector BankRec 12 :=
  (c.ctx n).currentBank.elim c.alloc.banks fun ref => c.alloc.banks.set ref.bank
    ((c.bank ref.bank).released (.nozzle n) (c.port plantPort).tagCounter c.orderTime)

/-- A release asked for changes the plant port and the bank's record alone. -/
theorem Controller.bankAsked_frame (c : Controller) (n : Nozzle) :
    ∃ r, c.bankAsked n = { c.setPort plantPort r with alloc := { c.alloc with banks := c.banksAsked n } } := by
  unfold Controller.bankAsked Controller.banksAsked
  cases (c.ctx n).currentBank with
  | none => exact ⟨c.port plantPort, by rw [c.setPort_port]; rfl⟩
  | some ref =>
    by_cases hnow : (c.bank ref.bank).freedNow (.nozzle n)
    · exact ⟨_, c.releaseBank_sends ref.bank n hnow⟩
    · refine ⟨c.port plantPort, ?_⟩
      rw [c.setPort_port]
      exact c.releaseBank_notes ref.bank n hnow

/-- R41: the CLOSE of the bank goes out at a plant port with room. -/
theorem Controller.bankAsked_port (c : Controller) (n : Nozzle)
    (hl : (c.port plantPort).line = none → (c.port plantPort).outbound = [])
    (hfree : (c.port plantPort).answerPlace = false) (hroom : c.room plantPort) :
    ((c.bankAsked n).port plantPort).pump = (c.freesBank n).port plantPort := by
  cases hcurrent : (c.ctx n).currentBank with
  | none =>
    rw [Controller.bankAsked, Controller.freesBank, hcurrent]
    exact PortRec.pump_eq_self _ hl
  | some ref =>
    have hasked : c.bankAsked n = c.releaseBank ref.bank (.nozzle n) := by rw [Controller.bankAsked, hcurrent]; rfl
    by_cases hnow : (c.bank ref.bank).freedNow (.nozzle n)
    · have hfrees : c.freesBank n = c.orders plantPort 0x50
          [BitVec.ofNat 8 (ref.bank.val + 1), BitVec.ofNat 8 (n.val + 1), 0x02, (c.bank ref.bank).generation, 0, 0, 0] := by
        rw [Controller.freesBank, hcurrent]
        exact if_pos hnow
      rw [hasked, c.releaseBank_sends ref.bank n hnow, hfrees, ← c.pump_ordered plantPort _ _ hl hfree hroom]
      exact congrArg PortRec.pump (c.port_setPort_self plantPort _)
    · have hfrees : c.freesBank n = c := by
        rw [Controller.freesBank, hcurrent]
        exact if_neg hnow
      rw [hasked, c.releaseBank_notes ref.bank n hnow, hfrees]
      exact PortRec.pump_eq_self _ hl

/-! ## The orders of a fill that enters ENDING (R105, R110) -/

/-- R110: a record with its end pressure, where its flow has started. -/
def Record.withEnd (measured : Nat) (r : Record) : Record :=
  if r.flowStart.isSome then { r with endPressure := some measured } else r

/-- R110: with the flow CLOSED and no flow order in flight the vent is ordered at once. -/
theorem Controller.endingOrders_vent (c : Controller) (n : Nozzle) (hwanted : (c.ctx n).wanted = .closed)
    (hflow : (c.ctx n).flow = .closed) (hnone : (c.ctx n).flowOrder = none) :
    (c.driveFlow n).ventIfShut n =
      { c.setPort (portOfNozzle n) ((c.port (portOfNozzle n)).ordered 0x53 []) with
        contexts := c.contexts.set n
          { c.ctx n with ventOrder := some ⟨(c.port (portOfNozzle n)).tagCounter, some 10000⟩ }
        ring := { c.ring with records := c.recordsWith n (Record.withEnd (c.ctx n).measured) } } := by
  have hdrive : c.driveFlow n = c := by
    simp [Controller.driveFlow, hwanted, hflow]
  have hwritten := c.updRecordOf_eq n (Record.withEnd (c.ctx n).measured)
  have hvent : c.ventIfShut n = c.orderVent n := if_pos ⟨hflow, by rw [hnone]; rfl⟩
  rw [hdrive, hvent, Controller.orderVent, show (c.updRecordOf n fun r =>
    if r.flowStart.isSome then { r with endPressure := some (c.ctx n).measured } else r) = _ from hwritten]
  simp only [Controller.handOrder_eq]
  rfl

/-- R105: the FLOW order that drives the flow toward what is wanted. -/
theorem Controller.driveFlow_sends (c : Controller) (n : Nozzle) (w : Valve) (b : BankRef)
    (hwanted : (c.ctx n).wanted = w) (hdue : ¬ (w = (c.ctx n).flow ∨ (c.ctx n).flowOrder.isSome = true))
    (hbank : (c.ctx n).flowBank = some b) :
    c.driveFlow n =
      { c.setPort (portOfNozzle n) ((c.port (portOfNozzle n)).ordered 0x52 (flowBody w b.generation)) with
        contexts := c.contexts.set n { c.ctx n with
          flowOrder := some ⟨w, (c.port (portOfNozzle n)).tagCounter, b.generation, some c.orderTime⟩ } } := by
  subst hwanted
  rw [Controller.driveFlow, if_neg hdue, hbank]
  simp only [Controller.handOrder_eq]
  rfl

/-- R105: with the flow OPEN and no flow order in flight a FLOW CLOSE is handed, and the vent waits for it. -/
theorem Controller.endingOrders_shut (c : Controller) (n : Nozzle) (b : BankRef) (hwanted : (c.ctx n).wanted = .closed)
    (hflow : (c.ctx n).flow = .opened) (hnone : (c.ctx n).flowOrder = none) (hbank : (c.ctx n).flowBank = some b) :
    (c.driveFlow n).ventIfShut n =
      { c.setPort (portOfNozzle n) ((c.port (portOfNozzle n)).ordered 0x52 [0x02, b.generation]) with
        contexts := c.contexts.set n { c.ctx n with
          flowOrder := some ⟨.closed, (c.port (portOfNozzle n)).tagCounter, b.generation, some c.orderTime⟩ } } := by
  rw [c.driveFlow_sends n .closed b hwanted (by simp [hflow, hnone]) hbank]
  exact if_neg fun hshut => by simp [Controller.ctx] at hshut

/-- In every other case no order is handed: one is in flight, or the flow has had no bank. -/
theorem Controller.endingOrders_none (c : Controller) (n : Nozzle)
    (h : (c.ctx n).flowOrder ≠ none ∨ (c.ctx n).flow = .opened ∧ (c.ctx n).flowBank = none) :
    (c.driveFlow n).ventIfShut n = c := by
  have hdrive : c.driveFlow n = c := by
    rcases h with h | ⟨hflow, hbank⟩
    · simp [Controller.driveFlow, Option.isSome_iff_ne_none.2 h]
    · simp [Controller.driveFlow, hbank]
  rw [hdrive, Controller.ventIfShut]
  refine if_neg fun hshut => ?_
  rcases h with h | ⟨hflow, hbank⟩
  · exact h (Option.isNone_iff_eq_none.1 hshut.2)
  · rw [hflow] at hshut
    exact absurd hshut.1 (by decide)

/-- R110: whether the vent is ordered at once. -/
abbrev Context.ventsNow (x : Context) : Prop := x.flow = .closed ∧ x.flowOrder = none

/-- R105, R110: the orders of a context whose fill enters ENDING. -/
def Context.endOrdered (x : Context) (tag : Octet) (time : Nat) : Context :=
  { x with
    flowOrder := if x.flow = .opened ∧ x.flowOrder = none
      then x.flowBank.map fun b => ⟨.closed, tag, b.generation, some time⟩ else x.flowOrder
    ventOrder := if x.ventsNow then some ⟨tag, some 10000⟩ else x.ventOrder }

theorem Context.endOrdered_vent (x : Context) (tag : Octet) (time : Nat) (h : x.ventsNow) :
    x.endOrdered tag time = { x with ventOrder := some ⟨tag, some 10000⟩ } := by
  simp [Context.endOrdered, h]

theorem Context.endOrdered_shut (x : Context) (tag : Octet) (time : Nat) (b : BankRef) (hflow : x.flow = .opened)
    (hnone : x.flowOrder = none) (hbank : x.flowBank = some b) :
    x.endOrdered tag time = { x with flowOrder := some ⟨.closed, tag, b.generation, some time⟩ } := by
  simp [Context.endOrdered, Context.ventsNow, hflow, hnone, hbank]

theorem Context.endOrdered_none (x : Context) (tag : Octet) (time : Nat)
    (h : x.flowOrder ≠ none ∨ x.flow = .opened ∧ x.flowBank = none) : x.endOrdered tag time = x := by
  have hvents : ¬ x.ventsNow := by
    rcases h with h | ⟨hflow, -⟩
    · exact fun hv => h hv.2
    · simp [hflow]
  have horder : (if x.flow = .opened ∧ x.flowOrder = none
      then x.flowBank.map fun b => (⟨.closed, tag, b.generation, some time⟩ : FlowOrder) else x.flowOrder) =
      x.flowOrder := by
    rcases h with h | ⟨-, hbank⟩
    · exact if_neg fun ho => h ho.2
    · rw [hbank]
      exact ite_eq_right_iff.2 fun ho => ho.2.symm
  rw [Context.endOrdered, if_neg hvents, horder]

/-- No FLOW CLOSE is handed where a flow order is in flight, or the flow has had no bank. -/
theorem Controller.shutsFlow_none (c : Controller) (n : Nozzle)
    (h : (c.ctx n).flowOrder ≠ none ∨ (c.ctx n).flow = .opened ∧ (c.ctx n).flowBank = none) : c.shutsFlow n = c := by
  unfold Controller.shutsFlow
  split
  · rename_i b _ hnone hbank
    rcases h with h | ⟨-, h⟩
    · exact absurd hnone h
    · rw [hbank] at h
      contradiction
  · rfl

/-- The ring's records once the orders of ENDING have been handed. -/
def Controller.recordsAtEnd (c : Controller) (n : Nozzle) : List Record :=
  if (c.ctx n).ventsNow then c.recordsWith n (Record.withEnd (c.ctx n).measured) else c.ring.records

/-- The orders of a fill that enters ENDING: its context, its record, and what its dispenser port sends. -/
theorem Controller.endingOrders_eq (c : Controller) (n : Nozzle) (hwanted : (c.ctx n).wanted = .closed)
    (hl : (c.port (portOfNozzle n)).line = none → (c.port (portOfNozzle n)).outbound = [])
    (hfree : (c.port (portOfNozzle n)).answerPlace = false) :
    ∃ r, (c.driveFlow n).ventIfShut n = { c.setPort (portOfNozzle n) r with
        contexts := c.contexts.set n ((c.ctx n).endOrdered (c.port (portOfNozzle n)).tagCounter c.orderTime)
        ring := { c.ring with records := c.recordsAtEnd n } } ∧
      (c.room (portOfNozzle n) → r.pump = (c.endOrders n).port (portOfNozzle n)) := by
  by_cases hvents : (c.ctx n).ventsNow
  · refine ⟨(c.port (portOfNozzle n)).ordered 0x53 [], ?_, fun hroom => ?_⟩
    · rw [c.endingOrders_vent n hwanted hvents.1 hvents.2, Controller.recordsAtEnd, if_pos hvents,
        Context.endOrdered_vent _ _ _ hvents]
    · rw [c.pump_ordered _ _ _ hl hfree hroom, Controller.endOrders, if_pos hvents]
  by_cases hshuts : (c.ctx n).flow = .opened ∧ (c.ctx n).flowOrder = none ∧ (c.ctx n).flowBank ≠ none
  · obtain ⟨hflow, hnone, hhad⟩ := hshuts
    obtain ⟨b, hbank⟩ := Option.ne_none_iff_exists'.1 hhad
    refine ⟨(c.port (portOfNozzle n)).ordered 0x52 [0x02, b.generation], ?_, fun hroom => ?_⟩
    · rw [c.endingOrders_shut n b hwanted hflow hnone hbank, Controller.recordsAtEnd, if_neg hvents,
        Context.endOrdered_shut _ _ _ b hflow hnone hbank]
      rfl
    · rw [c.pump_ordered _ _ _ hl hfree hroom, Controller.endOrders, if_neg hvents, Controller.shutsFlow, hflow, hnone,
        hbank]
  · have hquiet : (c.ctx n).flowOrder ≠ none ∨ (c.ctx n).flow = .opened ∧ (c.ctx n).flowBank = none := by
      cases hflow : (c.ctx n).flow with
      | closed => exact .inl fun hnone => hvents ⟨hflow, hnone⟩
      | opened =>
        by_cases hnone : (c.ctx n).flowOrder = none
        · exact .inr ⟨rfl, by_contra fun hhad => hshuts ⟨hflow, hnone, hhad⟩⟩
        · exact .inl hnone
    refine ⟨c.port (portOfNozzle n), ?_, fun hroom => ?_⟩
    · rw [c.endingOrders_none n hquiet, Controller.recordsAtEnd, if_neg hvents,
        Context.endOrdered_none _ _ _ hquiet, c.setPort_port,
        show c.contexts.set n (c.ctx n) = c.contexts from Vector.set_getElem_self n.isLt]
    · rw [Controller.endOrders, if_neg hvents, c.shutsFlow_none n hquiet]
      exact PortRec.pump_eq_self _ hl

end Sys2Proof.Machine
end

section
/-! R110: a fill enters ENDING. -/

namespace Sys2Proof.Machine

/-- A context at its entry to ENDING with a reason, before its orders. -/
def Context.entering (x : Context) (why : EndReason) : Context := { x.enterEnding with endReason := some why }

/-- The fill of `c` at its entry to ENDING: its context, its record's reason, out of the account. -/
def Controller.enteredEnding (c : Controller) (n : Nozzle) (why : EndReason) : Controller :=
  { c with
    contexts := c.contexts.set n ((c.ctx n).entering why)
    alloc := c.alloc.without n
    ring := { c.ring with records := c.recordsWith n (Record.withReason why) } }

theorem Controller.setReason_entering (c : Controller) (n : Nozzle) (why : EndReason) :
    (c.updCtx n Context.enterEnding).setReason n why = { c.enteredEnding n why with alloc := c.alloc } := by
  have hcontexts : (c.updCtx n Context.enterEnding).contexts.set n
      { (c.updCtx n Context.enterEnding).ctx n with endReason := some why } =
        c.contexts.set n ((c.ctx n).entering why) :=
    contexts_set_set c.contexts n (c.ctx n).enterEnding fun x => { x with endReason := some why }
  have hrecords : (c.updCtx n Context.enterEnding).recordsWith n (Record.withReason why) =
      c.recordsWith n (Record.withReason why) := by
    simp [Controller.recordsWith, Context.enterEnding]
  rw [Controller.setReason_eq, hrecords]
  exact congrArg (fun l => ({ c with
    contexts := l, ring := { c.ring with records := c.recordsWith n (Record.withReason why) } } : Controller)) hcontexts

theorem Controller.beginEnding_eq (c : Controller) (n : Nozzle) (why : EndReason) :
    (c.beginEnding n why).ctl = (((c.enteredEnding n why).bankAsked n).driveFlow n).ventIfShut n := by
  have hasked : (match ((c.enteredEnding n why).ctx n).currentBank with
      | some b => (c.enteredEnding n why).releaseBank b.bank (.nozzle n)
      | none => c.enteredEnding n why) = (c.enteredEnding n why).bankAsked n := by
    unfold Controller.bankAsked
    cases ((c.enteredEnding n why).ctx n).currentBank <;> rfl
  rw [Controller.beginEnding, Eff.change_ctl, c.setReason_entering n why, Controller.precoolRelease_ctl]
  exact congrArg (fun d => (d.driveFlow n).ventIfShut n) hasked

theorem Controller.beginEnding_events (c : Controller) (n : Nozzle) (why : EndReason) :
    (c.beginEnding n why).events = if c.alloc.knows n then [.grantPass false] else [] := by
  rw [Controller.beginEnding, Eff.change_events, c.setReason_entering n why, Controller.precoolRelease_events]

/-- What an order with room leaves of its port rests on that port alone. -/
theorem Controller.port_orders_congr {c d : Controller} {p : PortId} (kind : Octet) (body : List Octet)
    (h : d.port p = c.port p) : (d.orders p kind body).port p = (c.orders p kind body).port p := by
  unfold Controller.orders
  rw [h]
  dsimp only
  split <;> rename_i hlink <;> simp [hlink]

/-- The order of ENDING rests on the flow, its order in flight, its bank and the dispenser port. -/
theorem Controller.port_endOrders_congr {c d : Controller} {n : Nozzle}
    (hport : d.port (portOfNozzle n) = c.port (portOfNozzle n)) (hflow : (d.ctx n).flow = (c.ctx n).flow)
    (horder : (d.ctx n).flowOrder = (c.ctx n).flowOrder) (hbank : (d.ctx n).flowBank = (c.ctx n).flowBank) :
    (d.endOrders n).port (portOfNozzle n) = (c.endOrders n).port (portOfNozzle n) := by
  unfold Controller.endOrders Controller.shutsFlow
  rw [hflow, horder, hbank]
  split
  · exact Controller.port_orders_congr _ _ hport
  · split
    · exact Controller.port_orders_congr _ _ hport
    · exact hport

theorem Controller.port_of_ports {c d : Controller} (h : d.ports = c.ports) (p : PortId) : d.port p = c.port p := by
  rw [Controller.port, Controller.port, h]

/-- R110: how a fill enters ENDING, in every field. -/
theorem Controller.beginEnding_frame (c : Controller) (n : Nozzle) (why : EndReason)
    (hl : (c.port (portOfNozzle n)).line = none → (c.port (portOfNozzle n)).outbound = [])
    (hfree : (c.port (portOfNozzle n)).answerPlace = false) :
    ∃ r, (c.beginEnding n why).ctl =
        { (c.setPort plantPort (((c.enteredEnding n why).bankAsked n).port plantPort)).setPort (portOfNozzle n) r with
          contexts := c.contexts.set n
            ((c.ctx n).endedWith why (c.port (portOfNozzle n)).tagCounter c.orderTime)
          alloc := { c.alloc.without n with banks := (c.enteredEnding n why).banksAsked n }
          ring := { c.ring with records := ((c.enteredEnding n why).bankAsked n).recordsAtEnd n } } ∧
      (c.room (portOfNozzle n) → r.pump = (c.endOrders n).port (portOfNozzle n)) := by
  rw [c.beginEnding_eq n why]
  obtain ⟨y, hy⟩ := (c.enteredEnding n why).bankAsked_frame n
  generalize hasked : (c.enteredEnding n why).bankAsked n = d at hy ⊢
  have hcontexts : d.contexts = c.contexts.set n ((c.ctx n).entering why) := by rw [hy]; rfl
  have hctx : d.ctx n = (c.ctx n).entering why := by rw [Controller.ctx, hcontexts]; simp
  have hports : d.ports = (c.setPort plantPort y).ports := by rw [hy]; rfl
  have hport : d.port (portOfNozzle n) = c.port (portOfNozzle n) := by
    rw [Controller.port_of_ports hports, c.port_setPort_ne y (portOfNozzle_ne_plant n)]
  have hplant : d.port plantPort = y := by rw [Controller.port_of_ports hports, c.port_setPort_self]
  have htime : d.orderTime = c.orderTime := by rw [hy]; rfl
  obtain ⟨r, heq, hr⟩ := d.endingOrders_eq n (by rw [hctx]; rfl) (by rwa [hport]) (by rwa [hport])
  refine ⟨r, ?_, fun hroom => ?_⟩
  · rw [heq, hcontexts, hctx, hport, htime, hplant, Vector.set_set]
    generalize d.recordsAtEnd n = l
    generalize (c.enteredEnding n why).banksAsked n = banks at hy ⊢
    rw [hy]
    simp only [Controller.setPort, Controller.enteredEnding]
    rfl
  · rw [hr (by rwa [Controller.room, hport])]
    exact Controller.port_endOrders_congr hport (by rw [hctx]; rfl) (by rw [hctx]; rfl) (by rw [hctx]; rfl)

theorem Controller.enteredEnding_currentBank (c : Controller) (n : Nozzle) (why : EndReason) :
    ((c.enteredEnding n why).ctx n).currentBank = (c.ctx n).currentBank := by
  simp [Controller.enteredEnding, Controller.ctx, Context.entering, Context.enterEnding]

/-- What the CLOSE of a fill's bank leaves of the plant port rests on that port, the fill's bank and its record, and not
on the fill's place in the account. -/
theorem Controller.port_freesBank_congr {c d : Controller} {n : Nozzle}
    (hcurrent : (d.ctx n).currentBank = (c.ctx n).currentBank) (hport : d.port plantPort = c.port plantPort)
    (hbank : ∀ b, ∃ k, d.bank b = { c.bank b with nextHolder := k }) :
    (d.freesBank n).port plantPort = (c.freesBank n).port plantPort := by
  unfold Controller.freesBank
  rw [hcurrent]
  split
  · rename_i ref _
    obtain ⟨k, hk⟩ := hbank ref.bank
    simp only [hk]
    split
    · exact Controller.port_orders_congr _ _ hport
    · exact hport
  · exact hport

/-- The record of a fill that has entered ENDING: its reason, and its end pressure where the vent is ordered at once. -/
theorem Controller.recordsAtEnd_entered (c : Controller) (n : Nozzle) (why : EndReason) :
    ((c.enteredEnding n why).bankAsked n).recordsAtEnd n =
      c.recordsWith n fun r => { r with
        endReason := some why
        endPressure := if (c.ctx n).flow = .closed ∧ (c.ctx n).flowOrder = none ∧ r.flowStart.isSome = true
          then some (c.ctx n).measured else r.endPressure } := by
  obtain ⟨y, hy⟩ := (c.enteredEnding n why).bankAsked_frame n
  generalize (c.enteredEnding n why).bankAsked n = d at hy ⊢
  have hctx : d.ctx n = (c.ctx n).entering why := by rw [hy]; simp [Controller.ctx, Controller.enteredEnding]
  have hrecords : d.ring.records = c.recordsWith n (Record.withReason why) := by rw [hy]; rfl
  have hauth : ((c.ctx n).entering why).auth = (c.ctx n).auth := rfl
  rw [Controller.recordsAtEnd, Controller.recordsWith, hctx, hauth, hrecords]
  unfold Controller.recordsWith
  cases (c.ctx n).auth with
  | none => exact ite_self _
  | some a =>
    by_cases hvents : ((c.ctx n).entering why).ventsNow
    · rw [if_pos hvents, Option.elim_some, Option.elim_some, Option.elim_some,
        changed_changed _ _ _ _ (Record.withReason_seq why)]
      refine congrArg (changed a.seq · c.ring.records) (funext fun r => ?_)
      obtain ⟨hflow, hnone⟩ : (c.ctx n).flow = .closed ∧ (c.ctx n).flowOrder = none := hvents
      by_cases hstart : r.flowStart.isSome = true
      · simp [Record.withEnd, Record.withReason, hflow, hnone, hstart, Context.entering, Context.enterEnding]
      · simp [Record.withEnd, Record.withReason, hflow, hnone, hstart]
    · rw [if_neg hvents]
      refine congrArg (changed a.seq · c.ring.records) (funext fun r => ?_)
      rw [Record.withReason, if_neg fun h => hvents ⟨h.1, h.2.1⟩]

/-- R110: a fill enters ENDING. -/
theorem Controller.beginEnding_ends (c : Controller) (n : Nozzle) (why : EndReason) (hl : c.linesServed)
    (hfree : ∀ p, (c.port p).answerPlace = false) : c.endsFill (c.beginEnding n why).ctl.settleLines n why := by
  obtain ⟨r, heq, hr⟩ := c.beginEnding_frame n why (hl _) (hfree _)
  have hports : (c.beginEnding n why).ctl.ports = ((c.setPort plantPort
      (((c.enteredEnding n why).bankAsked n).port plantPort)).setPort (portOfNozzle n) r).ports := by rw [heq]
  have hport := fun q => Controller.port_of_ports hports q
  refine ⟨?_, fun hroom => ?_, fun hroom => ?_, fun q hplant hnozzle => ?_, ?_, ?_, ?_⟩
  · rw [Controller.restKept, Controller.settleLines_eq, heq]
    rfl
  · rw [Controller.port_settleLines, hport, Controller.port_setPort_self, hr hroom]
  · rw [Controller.port_settleLines, hport, Controller.port_setPort_ne _ _ (portOfNozzle_ne_plant n).symm,
      Controller.port_setPort_self, (c.enteredEnding n why).bankAsked_port n (hl plantPort) (hfree plantPort) hroom,
      Controller.port_freesBank_congr (c.enteredEnding_currentBank n why) rfl
        fun b => ⟨_, Controller.bank_of_without rfl b⟩]
  · rw [Controller.port_settleLines, hport, Controller.port_setPort_ne _ _ hnozzle, Controller.port_setPort_ne _ _ hplant]
    exact PortRec.pump_eq_self _ (hl q)
  · rw [Controller.settleLines_contexts, heq]
  · rw [Controller.settleLines_ring, heq]
    rw [c.recordsAtEnd_entered n why, Controller.recordsWith]
    cases (c.ctx n).auth <;> rfl
  · rw [Controller.settleLines_alloc, heq]
    rw [Controller.banksAsked, c.enteredEnding_currentBank n why]
    cases (c.ctx n).currentBank <;> rfl

end Sys2Proof.Machine
end

section
/-! R6, R7, R114: the loss of the till port and of a dispenser port. -/

namespace Sys2Proof.Machine

/-! ## A port that falls (R7) -/

/-- A controller one of whose ports has gone DOWN. -/
def Controller.fell (c : Controller) (p : PortId) : Controller := c.setPort p (c.port p).fallen

@[simp] theorem PortRec.fallen_pump (r : PortRec) : r.fallen.pump = r.fallen := r.fallen.pump_eq_self fun _ => rfl

theorem Controller.fell_atRest (c : Controller) (p : PortId) (h : c.atRest) : (c.fell p).atRest := by
  obtain ⟨hrunning, howed, hlines, hfree⟩ := h
  refine ⟨hrunning, howed, c.linesServed_setPort p _ hlines fun _ => rfl, fun q => ?_⟩
  by_cases hq : q = p
  · subst hq
    rw [Controller.fell, c.port_setPort_self]
    exact hfree q
  · rw [Controller.fell, c.port_setPort_ne _ hq]
    exact hfree q

/-- R6, R7: a link timer that runs expires, where no start is pending or the port is not the plant's. -/
theorem Controller.linkTimedOut_eq (c : Controller) (p : PortId) (h : p ≠ plantPort ∨ c.pendingStart = none) :
    c.linkTimedOut p = if (c.port p).linkTimer.isSome then (c.fell p).handLoss p else .of c := by
  unfold Controller.linkTimedOut
  split
  · split
    · rename_i hk _
      rcases h with h | h
      · exact absurd rfl h
      · rw [hk] at h
        contradiction
    · rfl
  · rfl

theorem nozzleOfPort_portOfNozzle (n : Nozzle) : nozzleOfPort (portOfNozzle n) = some n := by
  revert n
  decide

/-- R7: the loss of a dispenser port is handed to its nozzle's context. -/
theorem Controller.handLoss_dispenser (c : Controller) (n : Nozzle) :
    c.handLoss (portOfNozzle n) = c.dispenserLost n := by
  rw [Controller.handLoss, if_neg (portOfNozzle_ne_plant n), nozzleOfPort_portOfNozzle]

/-- R114: where no context holds work, the port falls and nothing else changes. -/
theorem exec_linkTimeout_idle (s : State) (p : PortId) (h : s.ctl.atRest) (hp : p ≠ plantPort)
    (hidle : ∀ n, nozzleOfPort p = some n → (s.ctl.ctx n).state = .idle) :
    exec (.linkTimeout p) s =
      if (s.ctl.port p).linkTimer.isSome then .next (s.withCtl (s.ctl.fell p)) else .next s := by
  have hquiet : (s.ctl.fell p).handLoss p = .of (s.ctl.fell p) := by
    rw [Controller.handLoss, if_neg hp]
    split
    · rename_i n hn
      have hstate : ((s.ctl.fell p).ctx n).state = .idle := hidle n hn
      simp only [Controller.dispenserLost, hstate]
    · rfl
  have hlost := s.ctl.linkTimedOut_eq p (.inl hp)
  rw [hquiet] at hlost
  split
  · rename_i htimer
    rw [if_pos htimer] at hlost
    simp only [exec, execLinkTimeout, State.does]
    rw [s.ctl.perform_setPort _ p _ h hlost, PortRec.fallen_pump]
    rfl
  · rename_i htimer
    rw [if_neg htimer] at hlost
    exact s.does_nothing _ h hlost

/-- R114: the loss of a CONNECTED or COMPLETE nozzle's port makes it IDLE. -/
theorem exec_linkTimeout_off (s : State) (n : Nozzle) (h : s.ctl.atRest)
    (htimer : (s.ctl.port (portOfNozzle n)).linkTimer.isSome = true)
    (hstate : (s.ctl.ctx n).state = .connected ∨ (s.ctl.ctx n).state = .complete) :
    exec (.linkTimeout (portOfNozzle n)) s =
      .next (s.withCtl ((s.ctl.fell (portOfNozzle n)).updCtx n Context.toIdle)) := by
  have hrest := s.ctl.fell_atRest (portOfNozzle n) h
  have hlost : s.ctl.linkTimedOut (portOfNozzle n) = .of ((s.ctl.fell (portOfNozzle n)).updCtx n Context.toIdle) := by
    rw [s.ctl.linkTimedOut_eq _ (.inl (portOfNozzle_ne_plant n)), if_pos htimer, Controller.handLoss_dispenser,
      Controller.dispenserLost, show (s.ctl.fell (portOfNozzle n)).ctx n = s.ctl.ctx n from rfl]
    rcases hstate with hstate | hstate <;> rw [hstate]
  simp only [exec, execLinkTimeout, State.does]
  rw [s.ctl.perform_quiet _ h.1 h.2.1 (by rw [hlost]; rfl) (by rw [hlost]; exact h.2.1), hlost]
  exact congrArg (fun c => Host.Outcome.next (s.withCtl c))
    (Controller.settleLines_of_served ((s.ctl.fell (portOfNozzle n)).updCtx n Context.toIdle) hrest.2.2.1)

/-! ## A fill without flow at the loss of its port (R96, R114) -/

/-- A step whose operation closes a fill without flow, with nobody waiting for its grant pass. -/
theorem State.does_closeWithoutFlow (s : State) (f : Controller → Eff) (c : Controller) (n : Nozzle)
    (a : Authorisation) (r : Record) (l : FillLimits) (why : EndReason) (h : s.ctl.atRest)
    (hf : f s.ctl = c.closeWithoutFlow n why) (hc : c.atRest) (hlist : c.alloc.precoolList = [])
    (hclaim : c.alloc.compressorClaim = none) (hfill : c.hasFill n a r l) :
    ∃ t, s.does f = .next t ∧ c.closesFill t.ctl n a r l why := by
  obtain ⟨-, howed, hlines, hfree⟩ := hc
  have hcloses := c.closeWithoutFlow_closes n a r l why hfill hlines hfree
  have hevents := c.closeWithoutFlow_events n why
  have halloc := congrArg Controller.alloc hcloses.1
  have howes := congrArg Controller.owed hcloses.1
  simp only [Controller.settleLines_alloc, Controller.settleLines_owed] at halloc howes
  refine ⟨_, rfl, ?_⟩
  rw [State.withCtl_ctl, s.ctl.perform_calm f h ?_ ?_ ?_ ?_, hf]
  · exact hcloses
  · rw [hf, hevents]
    split
    · exact .inr rfl
    · exact .inl rfl
  · rw [hf]
    exact howes.trans howed
  · rw [hf, halloc]
    exact (congrArg (List.filter _) hlist).trans rfl
  · rw [hf, halloc]
    exact hclaim

/-- R114: a fill in AUTHORISED or WAIT_RESOURCES is closed without flow. -/
theorem exec_linkTimeout_closes (s : State) (n : Nozzle) (a : Authorisation) (r : Record) (f : FillLimits)
    (h : s.ctl.calm) (htimer : (s.ctl.port (portOfNozzle n)).linkTimer.isSome = true) (hfill : s.ctl.hasFill n a r f)
    (hstate : (s.ctl.ctx n).state = .authorised ∨ (s.ctl.ctx n).state = .waitResources) :
    ∃ t, exec (.linkTimeout (portOfNozzle n)) s = .next t ∧
      ((s.ctl.fell (portOfNozzle n)).updCtx n fun x => { x with connected := false }).closesFill t.ctl n a r f
        .dispenserLink := by
  obtain ⟨hrest, hlist, -, hclaim⟩ := h
  have hdown := s.ctl.fell_atRest (portOfNozzle n) hrest
  have hlost : s.ctl.linkTimedOut (portOfNozzle n) =
      ((s.ctl.fell (portOfNozzle n)).updCtx n fun x => { x with connected := false }).closeWithoutFlow n
        .dispenserLink := by
    rw [s.ctl.linkTimedOut_eq _ (.inl (portOfNozzle_ne_plant n)), if_pos htimer, Controller.handLoss_dispenser,
      Controller.dispenserLost, show (s.ctl.fell (portOfNozzle n)).ctx n = s.ctl.ctx n from rfl]
    rcases hstate with hstate | hstate <;> rw [hstate]
  have hfill' : ((s.ctl.fell (portOfNozzle n)).updCtx n fun x => { x with connected := false }).hasFill n a r f := by
    exact hfill.of_eq (by simp; rfl) rfl rfl
  exact s.does_closeWithoutFlow _ _ n a r f .dispenserLink hrest hlost hdown hlist hclaim hfill'

end Sys2Proof.Machine
end

section
/-! R114: the loss of a dispenser port reaches a fill that holds the gas path. -/

namespace Sys2Proof.Machine

/-! ## The fill cut off -/

/-- R114: a context cut off from its dispenser, with its reason. -/
def Context.lossCut (x : Context) : Context :=
  { x.cutOff with endReason := if x.state = .ending then x.endReason else some .dispenserLink }

/-- R114: the record of a context that is cut off, before its bank is given back. -/
def Context.lossCutRecord (x : Context) (q : Record) : Record :=
  (if x.state = .ending then q else q.withReason .dispenserLink).cutOff x.measured

theorem Context.lossCutRecord_seq (x : Context) (q : Record) : (x.lossCutRecord q).seq = q.seq := by
  unfold Context.lossCutRecord
  split <;> rfl

/-- R114: the fill of `c` cut off from its dispenser, and out of the account. -/
def Controller.lossCut (c : Controller) (n : Nozzle) : Controller :=
  { c with
    contexts := c.contexts.set n (c.ctx n).lossCut
    alloc := c.alloc.without n
    ring := { c.ring with records := c.recordsWith n (c.ctx n).lossCutRecord } }

/-- R114: a fill that holds the gas path is cut off, its bank given back, and closed. -/
theorem Controller.dispenserLost_eq (c : Controller) (n : Nozzle)
    (hstate : (c.ctx n).state = .leakCheck ∨ (c.ctx n).state = .ramping ∨ (c.ctx n).state = .hold ∨
      (c.ctx n).state = .ending) :
    (c.dispenserLost n).ctl = (((c.lossCut n).cutBank n).closeFill n).updCtx n Context.toIdle ∧
      (c.dispenserLost n).events = if c.alloc.knows n then [.grantPass false] else [] := by
  have hcut : ((if (c.ctx n).state = .ending then c else c.setReason n .dispenserLink).updCtx n
      Context.cutOff).updRecordOf n (fun r => r.cutOff (c.ctx n).measured) =
        { c.lossCut n with alloc := c.alloc } := by
    rw [Controller.updRecordOf_eq]
    by_cases hending : (c.ctx n).state = .ending
    · have hrecord : (c.ctx n).lossCutRecord = fun r => r.cutOff (c.ctx n).measured := by
        funext r
        rw [Context.lossCutRecord, if_pos hending]
      have hctx : (c.ctx n).lossCut = (c.ctx n).cutOff := by
        rw [Context.lossCut, if_pos hending]
        rfl
      rw [if_pos hending, Controller.lossCut, hrecord, hctx,
        Controller.recordsWith_congr (d := c.updCtx n Context.cutOff) (c := c) (by simp [Context.cutOff]) rfl]
      rfl
    · have hrecord : (c.ctx n).lossCutRecord = fun r => (r.withReason .dispenserLink).cutOff (c.ctx n).measured := by
        funext r
        rw [Context.lossCutRecord, if_neg hending]
      have hctx : (c.ctx n).lossCut = { c.ctx n with endReason := some .dispenserLink }.cutOff := by
        rw [Context.lossCut, if_neg hending]
        rfl
      rw [if_neg hending, Controller.lossCut, hrecord, hctx, Controller.setReason_eq,
        Controller.recordsWith_twice c _ n (Record.withReason .dispenserLink)
          (fun r => r.cutOff (c.ctx n).measured) (Record.withReason_seq _)
          (by rw [Controller.ctx_updCtx_self]; simp [Controller.ctx, Context.cutOff]) rfl]
      exact congrArg (fun l => ({ c with contexts := l, ring := { c.ring with records := c.recordsWith n _ } } : Controller))
        (contexts_set_set c.contexts n _ Context.cutOff)
  have hlost : c.dispenserLost n = (({ c.lossCut n with alloc := c.alloc } : Controller).precoolRelease n).change
      fun d => ((d.cutBank n).closeFill n).updCtx n Context.toIdle := by
    rw [← hcut, Controller.dispenserLost]
    dsimp only
    rcases hstate with h | h | h | h <;> simp only [h]
  rw [hlost, Eff.change_ctl, Eff.change_events, Controller.precoolRelease_ctl, Controller.precoolRelease_events]
  exact ⟨rfl, rfl⟩

/-! ## Its bank given back -/

/-- R110, R114: a context whose bank has been given back. -/
def Context.bankCut (x : Context) : Context :=
  if x.currentBank.isSome then { x with currentBank := none, lastBank := x.currentBank, releaseOutstanding := true } else x

theorem Controller.updCtx_updCtx (c : Controller) (n : Nozzle) (f g : Context → Context) :
    (c.updCtx n f).updCtx n g = c.updCtx n fun x => g (f x) := by
  simp [Controller.updCtx, Controller.setCtx, Controller.ctx]

/-- The close pressure of a fill's bank, written into the open segment of its record. -/
def Controller.bankClosing (c : Controller) (n : Nozzle) (q : Record) : Record :=
  (c.ctx n).currentBank.elim q fun b => q.closing (c.bank b.bank).pressure

theorem modifyLast_eq {α : Type} (f : α → α) (l : List α) :
    modifyLast f l = l.dropLast ++ (l.getLast?.map f).toList := by
  induction l with
  | nil => rfl
  | cons x l ih =>
    cases l with
    | nil => rfl
    | cons y l => simpa [modifyLast] using ih

theorem Controller.bankClosing_none (c : Controller) (n : Nozzle) (h : (c.ctx n).currentBank = none) :
    c.bankClosing n = id := by
  funext q
  rw [Controller.bankClosing, h]
  rfl

theorem Controller.recordsWith_id (c : Controller) (n : Nozzle) : c.recordsWith n id = c.ring.records := by
  unfold Controller.recordsWith
  cases (c.ctx n).auth with
  | none => rfl
  | some a => exact (List.map_congr_left fun r _ => ite_self r).trans (List.map_id _)

/-- R114: the bank of a fill is given back: its release asked for, its close pressure written, its place in the context
moved. -/
theorem Controller.cutBank_eq (c : Controller) (n : Nozzle) :
    c.cutBank n = { c.bankAsked n with
      contexts := c.contexts.set n (c.ctx n).bankCut
      ring := { c.ring with records := c.recordsWith n (c.bankClosing n) } } := by
  obtain ⟨y, hy⟩ := c.bankAsked_frame n
  cases hcurrent : (c.ctx n).currentBank with
  | none =>
    have hasked : c.bankAsked n = c := by rw [Controller.bankAsked, hcurrent]; rfl
    rw [c.bankClosing_none n hcurrent, c.recordsWith_id, hasked, Context.bankCut, Controller.cutBank, hcurrent,
      if_neg (by decide), show c.contexts.set n (c.ctx n) = c.contexts from Vector.set_getElem_self n.isLt]
  | some b =>
    have hasked : c.bankAsked n = c.releaseBank b.bank (.nozzle n) := by rw [Controller.bankAsked, hcurrent]; rfl
    have hclosing : c.bankClosing n = fun r : Record => { r with
        segments := modifyLast (fun g => { g with closePressure := (c.bank b.bank).pressure }) r.segments } := by
      funext q
      rw [Controller.bankClosing, hcurrent, modifyLast_eq]
      rfl
    rw [Controller.cutBank, hcurrent]
    dsimp only
    rw [← hasked, Controller.dropBank, Controller.updRecordOf_eq, ← hclosing]
    generalize c.bankAsked n = d at hy ⊢
    have hcontexts : d.contexts = c.contexts := by rw [hy]; rfl
    have hring : d.ring = c.ring := by rw [hy]; rfl
    rw [Controller.recordsWith_congr (c := c) (d := d) (by rw [Controller.ctx, hcontexts]; rfl) (by rw [hring]), hring]
    have hbank : (c.ctx n).bankCut =
        { c.ctx n with currentBank := none, lastBank := (c.ctx n).currentBank, releaseOutstanding := true } := by
      rw [Context.bankCut, hcurrent]
      rfl
    rw [hbank, Controller.updCtx_updCtx, Controller.updCtx, Controller.ctx, Controller.setCtx]
    dsimp only
    rw [hcontexts]
    rfl

/-! ## The fill as its close finds it -/

/-- The record of a fill that is cut off, with the close pressure of its bank. -/
def Controller.cutRecord (c : Controller) (n : Nozzle) (q : Record) : Record :=
  c.bankClosing n ((c.ctx n).lossCutRecord q)

theorem Controller.bankClosing_keeps (c : Controller) (n : Nozzle) (q : Record) :
    (c.bankClosing n q).seq = q.seq ∧ (c.bankClosing n q).closed = q.closed ∧
      (c.bankClosing n q).metered = q.metered := by
  unfold Controller.bankClosing
  cases (c.ctx n).currentBank <;> exact ⟨rfl, rfl, rfl⟩

theorem Context.lossCutRecord_keeps (x : Context) (q : Record) :
    (x.lossCutRecord q).seq = q.seq ∧ (x.lossCutRecord q).closed = q.closed ∧
      (x.lossCutRecord q).metered = q.metered := by
  unfold Context.lossCutRecord
  split <;> exact ⟨rfl, rfl, rfl⟩

/-- A fill cut off leaves its record's number, its being OPEN and its metered mass. -/
theorem Controller.cutRecord_keeps (c : Controller) (n : Nozzle) (q : Record) :
    (c.cutRecord n q).seq = q.seq ∧ (c.cutRecord n q).closed = q.closed ∧ (c.cutRecord n q).metered = q.metered := by
  obtain ⟨hseq, hclosed, hmetered⟩ := c.bankClosing_keeps n ((c.ctx n).lossCutRecord q)
  obtain ⟨hseq', hclosed', hmetered'⟩ := (c.ctx n).lossCutRecord_keeps q
  exact ⟨hseq.trans hseq', hclosed.trans hclosed', hmetered.trans hmetered'⟩

theorem Controller.lossCut_ctx (c : Controller) (n : Nozzle) : (c.lossCut n).ctx n = (c.ctx n).lossCut := by
  simp [Controller.lossCut, Controller.ctx]

theorem Controller.lossCut_bankClosing (c : Controller) (n : Nozzle) :
    (c.lossCut n).bankClosing n = c.bankClosing n := by
  have hpressure : ∀ b, ((c.lossCut n).bank b).pressure = (c.bank b).pressure := fun b => by
    rw [Controller.bank_of_without (c := c) (n := n) rfl]
  funext q
  unfold Controller.bankClosing
  simp only [c.lossCut_ctx, hpressure]
  rfl

/-- R114: a fill that holds the gas path cut off from its dispenser and its bank. -/
theorem Controller.lossCut_cutBank (c : Controller) (n : Nozzle) :
    (c.lossCut n).cutBank n = { c.setPort plantPort (((c.lossCut n).bankAsked n).port plantPort) with
      contexts := c.contexts.set n (c.ctx n).lossCut.bankCut
      alloc := { c.alloc.without n with banks := (c.lossCut n).banksAsked n }
      ring := { c.ring with records := c.recordsWith n (c.cutRecord n) } } := by
  obtain ⟨y, hy⟩ := (c.lossCut n).bankAsked_frame n
  have hplant : ((c.lossCut n).bankAsked n).port plantPort = y := by
    rw [Controller.port_of_ports (c := (c.lossCut n).setPort plantPort y) (by rw [hy]), Controller.port_setPort_self]
  have hrecords := Controller.recordsWith_twice c (c.lossCut n) n (c.ctx n).lossCutRecord (c.bankClosing n)
    (c.ctx n).lossCutRecord_seq (by rw [c.lossCut_ctx]; rfl) rfl
  rw [Controller.cutBank_eq, c.lossCut_bankClosing, hrecords, c.lossCut_ctx, hplant, hy]
  generalize (c.lossCut n).banksAsked n = banks
  simp only [Controller.setPort, Controller.lossCut, Vector.set_set]
  rfl

/-- The fill of `c` cut off, as its close finds it. -/
abbrev Controller.cutFill (c : Controller) (n : Nozzle) : Controller := (c.lossCut n).cutBank n

theorem Controller.hasFill.cutFill {c : Controller} {n : Nozzle} {a : Authorisation} {r : Record} {f : FillLimits}
    (h : c.hasFill n a r f) : (c.cutFill n).hasFill n a (c.cutRecord n r) f := by
  have heq := c.lossCut_cutBank n
  refine h.changed (c.cutRecord n) (fun q => (c.cutRecord_keeps n q).1) (c.cutRecord_keeps n r).2.1 ?_ ?_ ?_
  · have hctx : (c.cutFill n).ctx n = (c.ctx n).lossCut.bankCut := by
      rw [Controller.ctx, Controller.cutFill, heq]
      simp
    rw [hctx, Context.bankCut]
    split <;> rfl
  · rw [Controller.cutFill, heq]
    exact c.recordsWith_auth n a _ h.1
  · rw [Controller.cutFill, heq]
    rfl

theorem Controller.cutFill_port (c : Controller) (n : Nozzle) (q : PortId) (hq : q ≠ plantPort) :
    (c.cutFill n).port q = c.port q := by
  rw [Controller.port_of_ports (c := c.setPort plantPort (((c.lossCut n).bankAsked n).port plantPort))
    (by rw [Controller.cutFill, c.lossCut_cutBank n]), c.port_setPort_ne _ hq]

theorem Controller.cutFill_port_plant (c : Controller) (n : Nozzle) :
    (c.cutFill n).port plantPort = ((c.lossCut n).bankAsked n).port plantPort := by
  rw [Controller.port_of_ports (c := c.setPort plantPort (((c.lossCut n).bankAsked n).port plantPort))
    (by rw [Controller.cutFill, c.lossCut_cutBank n]), c.port_setPort_self]

theorem Controller.cutFill_store (c : Controller) (n : Nozzle) : (c.cutFill n).store = c.store := by
  rw [Controller.cutFill, c.lossCut_cutBank n]
  rfl

theorem Controller.cutFill_pacing (c : Controller) (n : Nozzle) : (c.cutFill n).ring.pacing = c.ring.pacing := by
  rw [Controller.cutFill, c.lossCut_cutBank n]

theorem Controller.cutFill_billing (c : Controller) (n : Nozzle) : (c.cutFill n).billing = c.billing := by
  funext f q
  rw [Controller.billing, c.cutFill_store]
  rfl

/-- R114: the controller that the loss of a dispenser port leaves of a fill that holds the gas path. -/
def Controller.cutClosed (c : Controller) (n : Nozzle) : Controller :=
  (((c.cutFill n).closeFill n).updCtx n Context.toIdle).settleLines

theorem Controller.cutClosed_port (c : Controller) (n : Nozzle) (q : PortId) :
    (c.cutClosed n).port q = (((c.cutFill n).closeFill n).port q).pump := by
  rw [Controller.cutClosed, Controller.port_settleLines, Controller.updCtx_port]

theorem Controller.cutClosed_ring (c : Controller) (n : Nozzle) :
    (c.cutClosed n).ring = ((c.cutFill n).closeFill n).ring := by
  rw [Controller.cutClosed, Controller.settleLines_ring, Controller.updCtx_ring]

/-- R114: what it leaves in every field. -/
theorem Controller.cutClosed_eq (c : Controller) (n : Nozzle) (a : Authorisation) (r : Record) (f : FillLimits)
    (h : c.hasFill n a r f) :
    c.cutClosed n = { c with
      ports := (c.cutClosed n).ports
      contexts := c.contexts.set n (c.ctx n).lossCut.bankCut.toIdle
      alloc := { c.alloc.without n with banks := (c.lossCut n).banksAsked n }
      meters := c.meters.set n (c.meter n).closed
      stationTotal := (c.stationTotal + r.metered) % 2 ^ 48
      nozzleTotals := c.nozzleTotals.set n ((c.nozzleTotals[n] + r.metered) % 2 ^ 48)
      ring := { c.ring with
        records := changed a.seq (fun q => c.billing f (c.cutRecord n q)) c.ring.records
        noticeOwed := (c.cutClosed n).ring.noticeOwed, pacing := (c.cutClosed n).ring.pacing } } := by
  have hcut := c.lossCut_cutBank n
  obtain ⟨heq, -⟩ := (c.cutFill n).closeFill_frame n a _ f h.cutFill
  have hring := (c.cutFill n).closeFill_ring_eq n a _ f h.cutFill
  refine Controller.eq_of_contexts_ring ?_ ?_ ?_
  · have hclosed : c.cutClosed n = { (c.cutFill n).recordClosed n a (c.cutRecord n r) f with
        ports := (c.cutClosed n).ports, contexts := (c.cutClosed n).contexts, ring := (c.cutClosed n).ring } := by
      rw [Controller.cutClosed, Controller.settleLines_eq, Controller.updCtx, heq]
      rfl
    refine hclosed.trans ?_
    generalize (c.cutClosed n).ports = ports
    generalize (c.cutClosed n).contexts = contexts
    generalize (c.cutClosed n).ring = ring
    rw [Controller.recordClosed, (c.cutRecord_keeps n r).2.2, Controller.cutFill, hcut]
    rfl
  · have hcut' : (c.cutFill n).contexts = c.contexts.set n (c.ctx n).lossCut.bankCut := by rw [Controller.cutFill, hcut]
    have hcontexts : ((c.cutFill n).closeFill n).contexts = (c.cutFill n).contexts := by rw [heq]; rfl
    rw [Controller.cutClosed, Controller.settleLines_contexts, Controller.contexts_updCtx, hcontexts, hcut']
    exact contexts_set_set c.contexts n _ Context.toIdle
  · have hcut' : (c.cutFill n).ring = { c.ring with records := changed a.seq (c.cutRecord n) c.ring.records } := by
      rw [← c.recordsWith_auth n a _ h.1, Controller.cutFill, hcut]
    rw [← c.cutClosed_ring n, c.cutFill_billing, hcut',
      changed_changed _ _ _ _ fun q => (c.cutRecord_keeps n q).1] at hring
    exact hring

/-- R114: what it tells, and what it leaves of the ports. -/
theorem Controller.cutClosed_ports (c : Controller) (n : Nozzle) (a : Authorisation) (r : Record) (f : FillLimits)
    (h : c.hasFill n a r f) (hl : c.linesServed) (hfree : ∀ p, (c.port p).answerPlace = false) :
    c.endIsTold (c.cutClosed n) n (c.billing f (c.cutRecord n r)) ∧
      (c.room plantPort → (c.cutClosed n).port plantPort = (c.freesBank n).port plantPort) ∧
      ∀ q, q ≠ portOfNozzle n → q ≠ plantPort → q ≠ tillPort → (c.cutClosed n).port q = c.port q := by
  obtain ⟨-, hkept⟩ := (c.cutFill n).closeFill_keeps n
  have hnozzle := c.cutFill_port n _ (portOfNozzle_ne_plant n)
  have htill : (c.cutFill n).port tillPort = c.port tillPort := c.cutFill_port n _ (by decide)
  refine ⟨?_, fun hroom => ?_, fun q hn hp ht => ?_⟩
  · have htells := (c.cutFill n).closeFill_tells c (c.cutClosed n) n a _ f h.cutFill
      ⟨by rw [hnozzle]; exact hl _, by rw [hnozzle]; exact hfree _⟩
      ⟨by rw [htill]; exact hl _, by rw [htill]; exact hfree _⟩ hnozzle.symm htill.symm (c.cutFill_pacing n).symm
      (c.cutFill_store n).symm (c.cutClosed_port n _) (c.cutClosed_port n _) (c.cutClosed_ring n)
    rwa [c.cutFill_billing] at htells
  · rw [c.cutClosed_port, hkept _ (by decide) (portOfNozzle_ne_plant n).symm, c.cutFill_port_plant,
      (c.lossCut n).bankAsked_port n (hl plantPort) (hfree plantPort) hroom]
    exact Controller.port_freesBank_congr (by rw [c.lossCut_ctx]; rfl) rfl fun b => ⟨_, Controller.bank_of_without rfl b⟩
  · rw [c.cutClosed_port, hkept q ht hn, c.cutFill_port n q hp]
    exact PortRec.pump_eq_self _ (hl q)

/-- R114: the loss of the dispenser port of a fill that holds the gas path, with nobody waiting. -/
theorem exec_linkTimeout_cuts (s : State) (n : Nozzle) (a : Authorisation) (r : Record) (f : FillLimits)
    (h : s.ctl.calm) (htimer : (s.ctl.port (portOfNozzle n)).linkTimer.isSome = true) (hfill : s.ctl.hasFill n a r f)
    (hstate : (s.ctl.ctx n).state = .leakCheck ∨ (s.ctl.ctx n).state = .ramping ∨ (s.ctl.ctx n).state = .hold ∨
      (s.ctl.ctx n).state = .ending) :
    exec (.linkTimeout (portOfNozzle n)) s = .next (s.withCtl ((s.ctl.fell (portOfNozzle n)).cutClosed n)) := by
  obtain ⟨hrest, hlist, -, hclaim⟩ := h
  obtain ⟨hlost, hevents⟩ := (s.ctl.fell (portOfNozzle n)).dispenserLost_eq n hstate
  have hfell : s.ctl.linkTimedOut (portOfNozzle n) = (s.ctl.fell (portOfNozzle n)).dispenserLost n := by
    rw [s.ctl.linkTimedOut_eq _ (.inl (portOfNozzle_ne_plant n)), if_pos htimer, Controller.handLoss_dispenser]
  have hclosed := (s.ctl.fell (portOfNozzle n)).cutClosed_eq n a r f hfill
  have halloc := congrArg Controller.alloc hclosed
  have howes := congrArg Controller.owed hclosed
  simp only [Controller.cutClosed, Controller.settleLines_alloc, Controller.settleLines_owed, ← hlost] at halloc howes
  simp only [exec, execLinkTimeout, State.does]
  rw [s.ctl.perform_calm _ hrest ?_ ?_ ?_ ?_, hfell, hlost]
  · rfl
  · rw [hfell, hevents]
    split
    · exact .inr rfl
    · exact .inl rfl
  · rw [hfell, howes]
    exact hrest.2.1
  · rw [hfell, halloc]
    exact (congrArg (List.filter _) hlist).trans rfl
  · rw [hfell, halloc]
    exact hclaim

/-! ## The same, field by field -/

/-- R114: a context that held the gas path, after the loss of its dispenser port. -/
def Context.cutOffIdle (x : Context) : Context :=
  { x with
    state := .idle, connected := false, auth := none, flowOrder := none, ventOrder := none, phase := none
    leakTimer := none, sensitive := .over, rampTimer := none, progressTimer := none, connectWait := none
    resourceWait := none, holdTimer := { x.holdTimer with running := false }
    endReason := if x.state = .ending then x.endReason else some .dispenserLink
    currentBank := none, lastBank := if x.currentBank = none then x.lastBank else x.currentBank
    releaseOutstanding := x.releaseOutstanding || x.currentBank.isSome }

theorem Context.lossCut_eq (x : Context) : x.lossCut.bankCut.toIdle = x.cutOffIdle := by
  cases hbank : x.currentBank with
  | none =>
    have hkept : x.lossCut.bankCut = x.lossCut := if_neg (by rw [show x.lossCut.currentBank = none from hbank]; decide)
    rw [hkept, Context.cutOffIdle, hbank, if_pos rfl, Option.isSome_none, Bool.or_false, ← hbank]
    rfl
  | some b =>
    have hmoved : x.lossCut.bankCut = { x.lossCut with
        currentBank := none, lastBank := x.lossCut.currentBank, releaseOutstanding := true } :=
      if_pos (by rw [show x.lossCut.currentBank = some b from hbank]; rfl)
    rw [hmoved, Context.cutOffIdle, if_neg (by rw [hbank]; simp), hbank, Option.isSome_some, Bool.or_true, ← hbank]
    rfl

/-- The bank records once a nozzle has asked for the release of its bank, where it has one. -/
theorem Controller.lossCut_banksAsked (c : Controller) (n : Nozzle) :
    (c.lossCut n).banksAsked n = (c.ctx n).currentBank.elim (c.alloc.without n).banks fun b =>
      (c.alloc.without n).banks.set b.bank
        ((c.alloc.without n).banks[b.bank].released (.nozzle n) (c.port plantPort).tagCounter c.orderTime) := by
  rw [Controller.banksAsked, c.lossCut_ctx]
  rfl

/-- The dispenser port of a fill that is cut off is DOWN, and takes no FILL_ENDED. -/
theorem Controller.cutClosed_port_dispenser (c : Controller) (n : Nozzle) (a : Authorisation) (r : Record)
    (f : FillLimits) (h : c.hasFill n a r f) (hdown : (c.port (portOfNozzle n)).link = .down)
    (hl : (c.port (portOfNozzle n)).line = none → (c.port (portOfNozzle n)).outbound = [])
    (hfree : (c.port (portOfNozzle n)).answerPlace = false) :
    (c.cutClosed n).port (portOfNozzle n) = c.port (portOfNozzle n) := by
  have hport := c.cutFill_port n _ (portOfNozzle_ne_plant n)
  have hroom : (c.cutFill n).roomFor (portOfNozzle n) 1 := fun hup => by rw [hport, hdown] at hup; contradiction
  rw [c.cutClosed_port, (c.cutFill n).closeFill_port_dispenser n a _ f h.cutFill (by rwa [hport]) hroom, hport,
    PortRec.pump_noticed _ _ hl fun hup => by rw [hdown] at hup; contradiction]
  exact if_neg (by rw [hdown]; decide)

end Sys2Proof.Machine
end

section
/-! R7, R46, R63, R79: the loss of the plant port reaches the Allocator and the Scheduler. -/

namespace Sys2Proof.Machine

theorem BankRec.dropAtPlantLoss_eq (r : BankRec) : r.dropAtPlantLoss =
    { tier := r.tier, pressure := none, temperature := none, holder := none, order := none
      releasePending := false, nextHolder := none
      state := if r.state = .isolated then .isolated else .idle
      generation := if r.holder = none then r.generation else r.generation + 1 } := by
  unfold BankRec.dropAtPlantLoss
  cases r.holder <;> rfl

/-- R46, R63: the account at the loss of the plant port. -/
theorem Allocator.dropAtPlantLoss_eq (a : Allocator) : a.dropAtPlantLoss = a.fallen := by
  simp only [Allocator.dropAtPlantLoss, Allocator.fallen, BankRec.dropAtPlantLoss_eq]

/-- R73, R79: the Scheduler at the loss of the plant port: a refill in progress ends without an order. -/
theorem Controller.schedulerPlantLoss_eq (c : Controller) :
    c.schedulerPlantLoss = .of { c with sched := c.sched.fallen } := by
  rw [Controller.schedulerPlantLoss, Scheduler.fallen]
  cases hrefill : c.sched.refilling with
  | false => simp [Controller.updSched, Eff.change, Eff.of]
  | true =>
    have hended : c.endRefill .plantLink = .of { c with sched := { c.sched with
        stallWindow := none, runConfirmed := false, valveOpen := false, refillBank := none, state := .stopped } } := rfl
    have hstate : c.sched.state ≠ .faulted := fun hf => by simp [Scheduler.refilling, hf] at hrefill
    rw [if_pos rfl, hended]
    simp [Controller.updSched, Eff.change, Eff.of, hstate]

theorem Eff.of_andThen (c : Controller) (f : Controller → Eff) : (Eff.of c).andThen f = f c := rfl

/-- The controller of a lost plant port, its contexts not yet told: the port fallen, the account and the Scheduler
emptied. -/
def Controller.plantFell (c : Controller) : Controller :=
  { c.fell plantPort with alloc := c.alloc.fallen, sched := c.sched.fallen }

/-- R7: the loss of the plant port reaches every context after the Allocator and the Scheduler. -/
theorem Controller.linkTimedOut_plant (c : Controller) (htimer : (c.port plantPort).linkTimer.isSome = true)
    (hstart : c.pendingStart = none) : c.linkTimedOut plantPort = c.plantFell.sequencerPlantLoss := by
  rw [c.linkTimedOut_eq plantPort (.inr hstart), if_pos htimer, Controller.handLoss, if_pos rfl,
    Allocator.dropAtPlantLoss_eq, Controller.schedulerPlantLoss_eq, Eff.of_andThen]
  exact congrArg Controller.sequencerPlantLoss (show _ = c.plantFell from rfl)

/-! ## A nozzle without a fill -/

/-- The states in which a context holds no OPEN record. -/
def NozzleState.quiet (x : NozzleState) : Prop := x = .idle ∨ x = .connected ∨ x = .complete

theorem Controller.plantLostFor_quiet (c : Controller) (n : Nozzle) (h : (c.ctx n).state.quiet) :
    c.plantLostFor n = .of (c.updCtx n Context.plantLost) := by
  rw [Controller.plantLostFor]
  rcases h with h | h | h <;> rw [h] <;> rfl

/-- The contexts with the plant lost to those of a list. -/
def contextsLost : List Nozzle → Vector Context 6 → Vector Context 6
  | [], v => v
  | n :: l, v => contextsLost l (v.set n v[n].plantLost)

theorem contextsLost_get (l : List Nozzle) (h : l.Nodup) (v : Vector Context 6) (n : Nozzle) :
    (contextsLost l v)[n] = if n ∈ l then v[n].plantLost else v[n] := by
  induction l generalizing v with
  | nil => rfl
  | cons m l ih =>
    obtain ⟨hm, hl⟩ := List.nodup_cons.1 h
    rw [contextsLost, ih hl]
    by_cases hn : n = m
    · subst hn
      simp [hm]
    · have hne : m.val ≠ n.val := fun he => hn (Fin.ext he.symm)
      simp [hn, Vector.getElem_set_ne _ _ hne]

/-- The loss of the plant port, told to nozzles without a fill. -/
theorem Controller.plantLostForAll_quiet (l : List Nozzle) (hl : l.Nodup) (c : Controller)
    (h : ∀ n ∈ l, (c.ctx n).state.quiet) :
    c.plantLostForAll l = .of { c with contexts := contextsLost l c.contexts } := by
  induction l generalizing c with
  | nil => rfl
  | cons n l ih =>
    obtain ⟨hn, hl'⟩ := List.nodup_cons.1 hl
    have hrest : ∀ m ∈ l, ((c.updCtx n Context.plantLost).ctx m).state.quiet := by
      intro m hm
      rw [Controller.ctx_updCtx_ne _ _ (by rintro rfl; exact hn hm)]
      exact h m (List.mem_cons_of_mem n hm)
    rw [Controller.plantLostForAll, c.plantLostFor_quiet n (h n List.mem_cons_self), Eff.of_andThen, ih hl' _ hrest]
    rfl

theorem allNozzles_nodup : allNozzles.Nodup := List.nodup_finRange 6

theorem mem_allNozzles (n : Nozzle) : n ∈ allNozzles := List.mem_finRange n

end Sys2Proof.Machine
end

section
/-! R115, R131: the loss of the plant port reaches the context of a fill. -/

namespace Sys2Proof.Machine

/-! ## What it takes from a fill (R110, R115, R131) -/

/-- R115: a context whose current bank has become its last bank. -/
def Context.forgotten (x : Context) : Context :=
  { x with currentBank := none, lastBank := if x.currentBank = none then x.lastBank else x.currentBank }

theorem Context.forgotten_none (x : Context) (h : x.currentBank = none) : x.forgotten = x := by
  rw [Context.forgotten, if_pos h, ← h]

theorem Context.forgotten_some (x : Context) (b : BankRef) (h : x.currentBank = some b) :
    x.forgotten = { x with currentBank := none, lastBank := some b } := by
  rw [Context.forgotten, if_neg (by rw [h]; exact Option.some_ne_none b), h]

theorem Controller.forgetBank_eq (c : Controller) (n : Nozzle) : c.forgetBank n = c.updCtx n Context.forgotten := by
  refine congrArg (c.setCtx n) ?_
  dsimp only
  split
  · rename_i b hbank
    exact ((c.ctx n).forgotten_some b hbank).symm
  · rename_i hbank
    exact ((c.ctx n).forgotten_none hbank).symm

theorem Context.forgotten_flowBank (x : Context) : x.forgotten.flowBank = x.flowBank := by
  unfold Context.forgotten Context.flowBank
  cases x.currentBank <;> rfl

/-- The fill of `c` as the loss of the plant port finds it: PLANT_PAUSE and release outstanding gone, and its bank. -/
def Controller.plantGone (c : Controller) (n : Nozzle) : Controller :=
  c.updCtx n fun x => x.plantLost.forgotten

theorem Controller.plantGone_eq (c : Controller) (n : Nozzle) :
    (c.updCtx n Context.losePlant).forgetBank n = c.plantGone n := by
  rw [Controller.forgetBank_eq, Controller.updCtx_updCtx]
  rfl

theorem Controller.plantLostFor_waits (c : Controller) (n : Nozzle)
    (h : (c.ctx n).state = .authorised ∨ (c.ctx n).state = .waitResources) :
    c.plantLostFor n = (c.updCtx n Context.plantLost).closeWithoutFlow n .plantLink := by
  rw [Controller.plantLostFor]
  rcases h with h | h <;> rw [h] <;> rfl

theorem Controller.plantLostFor_flows (c : Controller) (n : Nozzle)
    (h : (c.ctx n).state = .leakCheck ∨ (c.ctx n).state = .ramping ∨ (c.ctx n).state = .hold) :
    c.plantLostFor n = (c.plantGone n).beginEnding n .plantLink := by
  rw [← c.plantGone_eq n, Controller.plantLostFor]
  rcases h with h | h | h <;> rw [h]

theorem Controller.plantLostFor_ends (c : Controller) (n : Nozzle) (h : (c.ctx n).state = .ending) :
    c.plantLostFor n = .of (((c.plantGone n).updCtx n fun x => { x with bankSettled := true }).settleEnding n) := by
  rw [← c.plantGone_eq n, Controller.plantLostFor, h]
  rfl

/-! ## What it leaves unchanged beside the fill -/

/-- Beside one nozzle, its dispenser port and the till port, nothing that another context rests on has changed. -/
structure Controller.KeepsBut (n : Nozzle) (c d : Controller) : Prop where
  store : d.store = c.store
  sched : d.sched = c.sched
  owed : d.owed = c.owed
  ctx : ∀ m, m ≠ n → d.ctx m = c.ctx m
  port : ∀ q, q ≠ tillPort → q ≠ portOfNozzle n → d.port q = c.port q

theorem Controller.KeepsBut.trans {n : Nozzle} {c d e : Controller} (h : c.KeepsBut n d) (h' : d.KeepsBut n e) :
    c.KeepsBut n e :=
  ⟨h'.store.trans h.store, h'.sched.trans h.sched, h'.owed.trans h.owed,
    fun m hm => (h'.ctx m hm).trans (h.ctx m hm), fun q ht hq => (h'.port q ht hq).trans (h.port q ht hq)⟩

theorem Controller.updCtx_keepsBut (c : Controller) (n : Nozzle) (g : Context → Context) :
    c.KeepsBut n (c.updCtx n g) :=
  ⟨rfl, rfl, rfl, fun _ hm => c.ctx_updCtx_ne g hm, fun _ _ _ => rfl⟩

theorem Controller.closeFill_keepsBut (c : Controller) (n : Nozzle) : c.KeepsBut n (c.closeFill n) := by
  obtain ⟨⟨ports, meters, station, totals, ring, h⟩, hports⟩ := c.closeFill_keeps n
  refine ⟨?_, ?_, ?_, fun m _ => ?_, hports⟩ <;> rw [h]
  rfl

theorem Controller.closeFill_ctx (c : Controller) (n m : Nozzle) : (c.closeFill n).ctx m = c.ctx m := by
  obtain ⟨⟨ports, meters, station, totals, ring, h⟩, -⟩ := c.closeFill_keeps n
  rw [h]
  rfl

theorem Controller.closeFill_alloc (c : Controller) (n : Nozzle) : (c.closeFill n).alloc = c.alloc := by
  obtain ⟨⟨ports, meters, station, totals, ring, h⟩, -⟩ := c.closeFill_keeps n
  rw [h]

/-- R96: a close without flow reaches its own context alone. -/
theorem Controller.closeWithoutFlow_keeps (c : Controller) (n : Nozzle) (why : EndReason) :
    c.KeepsBut n (c.closeWithoutFlow n why).ctl ∧ (c.closeWithoutFlow n why).ctl.alloc = c.alloc.without n ∧
      (c.closeWithoutFlow n why).ctl.ctx n = { c.ctx n with
        connectWait := none, resourceWait := none, endReason := some why, auth := none
        state := if (c.ctx n).connected then .connected else .idle } := by
  have hwithout : c.KeepsBut n (c.withoutFlow n why) :=
    ⟨rfl, rfl, rfl, fun _ hm => c.ctx_setCtx_ne _ hm, fun _ _ _ => rfl⟩
  have hctx : (c.withoutFlow n why).ctx n =
      { c.ctx n with connectWait := none, resourceWait := none, endReason := some why } := by
    simp [Controller.withoutFlow, Controller.ctx]
  rw [c.closeWithoutFlow_eq n why]
  refine ⟨(hwithout.trans ((c.withoutFlow n why).closeFill_keepsBut n)).trans (Controller.updCtx_keepsBut _ n _), ?_, ?_⟩
  · rw [Controller.updCtx_alloc, Controller.closeFill_alloc]
    rfl
  · rw [Controller.ctx_updCtx_self, Controller.closeFill_ctx, hctx]
    rfl

/-- R112: what becomes of a fill in ENDING with its bank settled reaches its own context alone. -/
theorem Controller.settleEnding_keeps (c : Controller) (n : Nozzle) :
    c.KeepsBut n (c.settleEnding n) ∧ (c.settleEnding n).alloc = c.alloc := by
  unfold Controller.settleEnding
  dsimp only
  split
  · refine ⟨(c.closeFill_keepsBut n).trans (Controller.updCtx_keepsBut _ n _), ?_⟩
    rw [Controller.updCtx_alloc, Controller.closeFill_alloc]
  · exact ⟨⟨rfl, rfl, rfl, fun _ _ => rfl, fun _ _ _ => rfl⟩, rfl⟩

/-- R110: a fill without a bank enters ENDING, which reaches its own context alone. -/
theorem Controller.beginEnding_keeps (c : Controller) (n : Nozzle) (why : EndReason)
    (hbank : (c.ctx n).currentBank = none)
    (hl : (c.port (portOfNozzle n)).line = none → (c.port (portOfNozzle n)).outbound = [])
    (hfree : (c.port (portOfNozzle n)).answerPlace = false) :
    c.KeepsBut n (c.beginEnding n why).ctl ∧ (c.beginEnding n why).ctl.alloc = c.alloc.without n ∧
      (c.beginEnding n why).ctl.ctx n = (c.ctx n).endedWith why (c.port (portOfNozzle n)).tagCounter c.orderTime ∧
      (c.room (portOfNozzle n) → ((c.beginEnding n why).ctl.port (portOfNozzle n)).pump =
        (c.endOrders n).port (portOfNozzle n)) := by
  obtain ⟨r, heq, hr⟩ := c.beginEnding_frame n why hl hfree
  have hasked : (c.enteredEnding n why).bankAsked n = c.enteredEnding n why := by
    rw [Controller.bankAsked, c.enteredEnding_currentBank n why, hbank]
    rfl
  have hbanks : (c.enteredEnding n why).banksAsked n = (c.alloc.without n).banks := by
    rw [Controller.banksAsked, c.enteredEnding_currentBank n why, hbank]
    rfl
  rw [hasked, hbanks, show (c.enteredEnding n why).port plantPort = c.port plantPort from rfl, c.setPort_port] at heq
  rw [heq]
  refine ⟨⟨rfl, rfl, rfl, fun m hm => c.ctx_setCtx_ne _ hm, fun q _ hq => c.port_setPort_ne r hq⟩, rfl,
    c.ctx_setCtx_self n _, fun hroom => ?_⟩
  rw [← hr hroom]
  exact congrArg PortRec.pump (c.port_setPort_self (portOfNozzle n) r)

end Sys2Proof.Machine
end

section
/-! R115: the loss of the plant port reaches every context. -/

namespace Sys2Proof.Machine

/-! ## One context -/

/-- R110, R112, R115, R131: a context after the loss of the plant port. -/
def Context.afterPlantLoss (x : Context) (tag : Octet) (time : Nat) : Context :=
  match x.state with
  | .authorised | .waitResources => { x.plantLost with
      connectWait := none, resourceWait := none, endReason := some .plantLink, auth := none
      state := if x.connected then .connected else .idle }
  | .leakCheck | .ramping | .hold => x.plantLost.forgotten.endedWith .plantLink tag time
  | .ending =>
    if x.ventSettled then { x.plantLost.forgotten with
      bankSettled := true, progressTimer := none, state := if x.hangSeen then .idle else .complete
      auth := if x.hangSeen then none else x.auth }
    else { x.plantLost.forgotten with bankSettled := true }
  | _ => x.plantLost

/-- The states in which a fill has flow to end. -/
def NozzleState.flows (x : NozzleState) : Prop := x = .leakCheck ∨ x = .ramping ∨ x = .hold

/-- What the loss of the plant port makes of nozzle `n` of `c`, before the lines take their heads. -/
structure Controller.LostAt (c d : Controller) (n : Nozzle) : Prop where
  ctx : d.ctx n = (c.ctx n).afterPlantLoss (c.port (portOfNozzle n)).tagCounter c.orderTime
  told : (c.ctx n).state.flows → c.room (portOfNozzle n) →
    (d.port (portOfNozzle n)).pump = (c.endOrders n).port (portOfNozzle n)
  kept : (c.ctx n).state.quiet ∨ (c.ctx n).state = .ending ∧ (c.ctx n).ventSettled = false →
    d.port (portOfNozzle n) = c.port (portOfNozzle n)

/-- What the loss makes of a nozzle rests on its context, its dispenser port and the order time. -/
theorem Controller.LostAt.congr {c d c' d' : Controller} {n : Nozzle} (h : c.LostAt d n)
    (hctx : c'.ctx n = c.ctx n) (hport : c'.port (portOfNozzle n) = c.port (portOfNozzle n))
    (hstore : c'.store = c.store) (hctx' : d'.ctx n = d.ctx n)
    (hport' : d'.port (portOfNozzle n) = d.port (portOfNozzle n)) : c'.LostAt d' n := by
  refine ⟨?_, fun hflows hroom => ?_, fun hkept => ?_⟩
  · rw [hctx', h.ctx, hctx, hport, Controller.orderTime, Controller.orderTime, hstore]
  · rw [hctx] at hflows
    rw [Controller.room, hport] at hroom
    rw [hport', h.told hflows hroom]
    exact (Controller.port_endOrders_congr hport (by rw [hctx]) (by rw [hctx]) (by rw [hctx])).symm
  · rw [hctx] at hkept
    rw [hport', h.kept hkept, hport]

/-- What the loss of the plant port makes of one context, wherever it stood. -/
abbrev Controller.Lost (c : Controller) (n : Nozzle) : Prop :=
  (c.plantLostFor n).events = [] ∧ (c.plantLostFor n).ctl.alloc = c.alloc ∧ c.KeepsBut n (c.plantLostFor n).ctl ∧
    c.LostAt (c.plantLostFor n).ctl n

theorem Controller.lost_of_quiet (c : Controller) (n : Nozzle) (h : (c.ctx n).state.quiet) : c.Lost n := by
  rw [Controller.Lost, c.plantLostFor_quiet n h]
  refine ⟨rfl, rfl, c.updCtx_keepsBut n _, ⟨?_, fun hflows => ?_, fun _ => rfl⟩⟩
  · rw [Eff.of, Controller.ctx_updCtx_self, Context.afterPlantLoss]
    rcases h with h | h | h <;> rw [h]
  · rcases h with h | h | h <;> simp [h, NozzleState.flows] at hflows

theorem Controller.lost_of_waits (c : Controller) (n : Nozzle) (hknown : c.alloc.knows n = false)
    (h : (c.ctx n).state = .authorised ∨ (c.ctx n).state = .waitResources) : c.Lost n := by
  obtain ⟨hkeeps, halloc, hctx⟩ := (c.updCtx n Context.plantLost).closeWithoutFlow_keeps n .plantLink
  rw [Controller.Lost, c.plantLostFor_waits n h]
  refine ⟨?_, ?_, (c.updCtx_keepsBut n _).trans hkeeps, ⟨?_, fun hflows => ?_, fun hkept => ?_⟩⟩
  · rw [Controller.closeWithoutFlow_events, Controller.updCtx_alloc, hknown]
    rfl
  · rw [halloc, Controller.updCtx_alloc, c.alloc.without_of_not_knows n hknown]
  · rw [hctx, Controller.ctx_updCtx_self, Context.afterPlantLoss]
    rcases h with h | h <;> rw [h] <;> rfl
  · rcases h with h | h <;> simp [h, NozzleState.flows] at hflows
  · rcases h with h | h <;> simp [h, NozzleState.quiet] at hkept

theorem Controller.plantGone_ctx (c : Controller) (n : Nozzle) :
    (c.plantGone n).ctx n = (c.ctx n).plantLost.forgotten := by
  rw [Controller.plantGone, Controller.ctx_updCtx_self]

theorem Controller.lost_of_flows (c : Controller) (n : Nozzle) (hknown : c.alloc.knows n = false)
    (hl : (c.port (portOfNozzle n)).line = none → (c.port (portOfNozzle n)).outbound = [])
    (hfree : (c.port (portOfNozzle n)).answerPlace = false) (h : (c.ctx n).state.flows) : c.Lost n := by
  obtain ⟨hkeeps, halloc, hctx, htold⟩ :=
    (c.plantGone n).beginEnding_keeps n .plantLink (by rw [c.plantGone_ctx]; rfl) hl hfree
  rw [Controller.Lost, c.plantLostFor_flows n h]
  refine ⟨?_, ?_, (c.updCtx_keepsBut n _).trans hkeeps, ⟨?_, fun _ hroom => ?_, fun hkept => ?_⟩⟩
  · rw [Controller.beginEnding_events, show (c.plantGone n).alloc = c.alloc from rfl, hknown]
    rfl
  · rw [halloc, show (c.plantGone n).alloc = c.alloc from rfl, c.alloc.without_of_not_knows n hknown]
  · rw [hctx, c.plantGone_ctx, Context.afterPlantLoss]
    rcases h with h | h | h <;> rw [h] <;> rfl
  · rw [htold hroom]
    exact Controller.port_endOrders_congr rfl (by rw [c.plantGone_ctx]; rfl) (by rw [c.plantGone_ctx]; rfl)
      (by rw [c.plantGone_ctx, Context.forgotten_flowBank]; rfl)
  · rcases h with h | h | h <;> simp [h, NozzleState.quiet] at hkept

theorem Controller.lost_of_ends (c : Controller) (n : Nozzle) (h : (c.ctx n).state = .ending) : c.Lost n := by
  let d := (c.plantGone n).updCtx n fun x => { x with bankSettled := true }
  obtain ⟨hkeeps, halloc⟩ := d.settleEnding_keeps n
  have hctx : d.ctx n = { (c.ctx n).plantLost.forgotten with bankSettled := true } := by
    rw [Controller.ctx_updCtx_self, c.plantGone_ctx]
  rw [Controller.Lost, c.plantLostFor_ends n h]
  refine ⟨rfl, halloc, ((c.updCtx_keepsBut n _).trans (Controller.updCtx_keepsBut _ n _)).trans hkeeps,
    ⟨?_, fun hflows => ?_, fun hkept => ?_⟩⟩
  · show (d.settleEnding n).ctx n = _
    rw [Context.afterPlantLoss, h]
    dsimp only
    split
    · rename_i hvent
      rw [d.settleEnding_settled n (by rw [hctx]; exact h) (by rw [hctx]; exact hvent) (by rw [hctx]),
        Controller.ctx_updCtx_self, Controller.closeFill_ctx, hctx]
      rfl
    · rename_i hvent
      rw [d.settleEnding_waits n (by rw [hctx]; exact Bool.eq_false_of_not_eq_true hvent), hctx]
  · simp [h, NozzleState.flows] at hflows
  · have hvent : (c.ctx n).ventSettled = false := by
      rcases hkept with hquiet | ⟨-, hvent⟩
      · simp [h, NozzleState.quiet] at hquiet
      · exact hvent
    show (d.settleEnding n).port _ = _
    rw [d.settleEnding_waits n (by rw [hctx]; exact hvent)]
    rfl

/-- R115: the loss of the plant port reaches one context, which stands nowhere in the account. -/
theorem Controller.plantLostFor_lost (c : Controller) (n : Nozzle) (hknown : c.alloc.knows n = false)
    (hl : (c.port (portOfNozzle n)).line = none → (c.port (portOfNozzle n)).outbound = [])
    (hfree : (c.port (portOfNozzle n)).answerPlace = false) : c.Lost n := by
  cases hstate : (c.ctx n).state
  case idle => exact c.lost_of_quiet n (.inl hstate)
  case connected => exact c.lost_of_quiet n (.inr (.inl hstate))
  case complete => exact c.lost_of_quiet n (.inr (.inr hstate))
  case authorised => exact c.lost_of_waits n hknown (.inl hstate)
  case waitResources => exact c.lost_of_waits n hknown (.inr hstate)
  case leakCheck => exact c.lost_of_flows n hknown hl hfree (.inl hstate)
  case ramping => exact c.lost_of_flows n hknown hl hfree (.inr (.inl hstate))
  case hold => exact c.lost_of_flows n hknown hl hfree (.inr (.inr hstate))
  case ending => exact c.lost_of_ends n hstate

/-! ## Every context -/

/-- What the loss of the plant port makes of the nozzles of a list, each of which it reaches once. -/
structure Controller.LostAll (c : Controller) (l : List Nozzle) (e : Eff) : Prop where
  events : e.events = []
  alloc : e.ctl.alloc = c.alloc
  store : e.ctl.store = c.store
  sched : e.ctl.sched = c.sched
  owed : e.ctl.owed = c.owed
  plant : e.ctl.port plantPort = c.port plantPort
  lost : ∀ n ∈ l, c.LostAt e.ctl n
  kept : ∀ n, n ∉ l → e.ctl.ctx n = c.ctx n ∧ e.ctl.port (portOfNozzle n) = c.port (portOfNozzle n)

/-- R115: the loss of the plant port reaches the contexts of a list one by one, none of which stands in the account. -/
theorem Controller.plantLostForAll_lost (l : List Nozzle) (hnodup : l.Nodup) (c : Controller)
    (hknown : ∀ n, c.alloc.knows n = false)
    (hports : ∀ n ∈ l, c.tellsAt (portOfNozzle n)) : c.LostAll l (c.plantLostForAll l) := by
  induction l generalizing c with
  | nil => exact ⟨rfl, rfl, rfl, rfl, rfl, rfl, by simp, fun _ _ => ⟨rfl, rfl⟩⟩
  | cons n l ih =>
    obtain ⟨hn, hnodup'⟩ := List.nodup_cons.1 hnodup
    obtain ⟨hl, hfree⟩ := hports n List.mem_cons_self
    obtain ⟨hevents, halloc, hkeeps, hlost⟩ := c.plantLostFor_lost n (hknown n) hl hfree
    rw [Controller.plantLostForAll]
    generalize c.plantLostFor n = e at hevents halloc hkeeps hlost ⊢
    have hport : ∀ m, m ≠ n → e.ctl.port (portOfNozzle m) = c.port (portOfNozzle m) := fun m hm =>
      hkeeps.port _ (portOfNozzle_ne_till m) fun hp => hm (portOfNozzle_injective hp)
    have hother : ∀ m ∈ l, m ≠ n := by
      rintro m hm rfl
      exact hn hm
    have hrest := ih hnodup' e.ctl (by rwa [halloc]) fun m hm => by
      rw [Controller.tellsAt, hport m (hother m hm)]
      exact hports m (List.mem_cons_of_mem n hm)
    refine ⟨?_, hrest.alloc.trans halloc, hrest.store.trans hkeeps.store, hrest.sched.trans hkeeps.sched,
      hrest.owed.trans hkeeps.owed, ?_, fun m hm => ?_, fun m hm => ?_⟩
    · rw [Eff.andThen_events, hevents, hrest.events]
      rfl
    · rw [Eff.andThen_ctl, hrest.plant, hkeeps.port _ (by decide) (portOfNozzle_ne_plant n).symm]
    · rcases List.mem_cons.1 hm with rfl | hm'
      · obtain ⟨hctx, hp⟩ := hrest.kept m hn
        exact hlost.congr rfl rfl rfl hctx hp
      · have hne := hother m hm'
        exact (hrest.lost m hm').congr (hkeeps.ctx m hne).symm (hport m hne).symm hkeeps.store.symm rfl rfl
    · obtain ⟨hne, hm'⟩ := not_or.1 (mt List.mem_cons.2 hm)
      obtain ⟨hctx, hp⟩ := hrest.kept m hm'
      exact ⟨hctx.trans (hkeeps.ctx m hne), hp.trans (hport m hne)⟩

/-! ## The step (R7, R46, R63, R79) -/

theorem Controller.plantFell_port (c : Controller) (q : PortId) (hq : q ≠ plantPort) :
    c.plantFell.port q = c.port q := c.port_setPort_ne _ hq

theorem Controller.plantFell_port_plant (c : Controller) : c.plantFell.port plantPort = (c.port plantPort).fallen :=
  c.port_setPort_self plantPort _

theorem Controller.plantFell_atRest (c : Controller) (h : c.atRest) : c.plantFell.atRest := c.fell_atRest plantPort h

/-- The loss of the plant port, its contexts told and nobody waiting in the account left. -/
theorem exec_linkTimeout_plant (s : State) (e : Eff) (h : s.ctl.atRest)
    (htimer : (s.ctl.port plantPort).linkTimer.isSome = true) (hstart : s.ctl.pendingStart = none)
    (hwalk : s.ctl.plantFell.plantLostForAll allNozzles = e)
    (hevents : e.events = [] ∨ e.events = [.grantPass false]) (howed : e.ctl.owed = [])
    (hlist : e.ctl.alloc.precoolList = []) (hclaim : e.ctl.alloc.compressorClaim = none) :
    exec (.linkTimeout plantPort) s =
      .next (s.withCtl { e.ctl.settleLines with pauseTimer := none }) := by
  have hlost : s.ctl.linkTimedOut plantPort = ⟨{ e.ctl with pauseTimer := none }, e.events⟩ := by
    rw [s.ctl.linkTimedOut_plant htimer hstart, Controller.sequencerPlantLoss, hwalk]
    rfl
  simp only [exec, execLinkTimeout, State.does]
  rw [s.ctl.perform_calm _ h (by rw [hlost]; exact hevents) (by rw [hlost]; exact howed) (by rw [hlost]; exact hlist)
    (by rw [hlost]; exact hclaim), hlost]
  rfl

/-- R46, R63: after the loss no nozzle stands in the account, where none is the next holder of a bank not configured. -/
theorem Allocator.fallen_knows (a : Allocator) (n : Nozzle)
    (h : ∀ b : BankId, a.bankCount ≤ b.val → a.banks[b].nextHolder = none) : a.fallen.knows n = false := by
  have hnext : a.fallen.nextHolderAnywhere n = false := by
    rw [Allocator.nextHolderAnywhere, List.any_eq_false]
    intro r hr
    obtain ⟨i, hi, rfl⟩ := Vector.mem_iff_getElem.1 (Vector.mem_toList_iff.1 hr)
    have hnone : (a.fallen.banks[i]).nextHolder = none := by
      simp only [Allocator.fallen, Vector.getElem_ofFn]
      split
      · rfl
      · rename_i hcount
        exact h ⟨i, hi⟩ (Nat.le_of_not_lt hcount)
    simp [isNextHolder, hnone]
  rw [Allocator.knows, hnext]
  simp [Allocator.fallen]

theorem Context.plantLost_quiet (x : Context) (h : x.state.quiet) :
    x.plantLost = { x with releaseOutstanding := false } := by
  have hnone : x.state.holdsRecord = false := by
    rcases h with h | h | h <;> rw [h] <;> rfl
  rw [Context.plantLost, hnone]
  rfl

/-- R115, R131: the loss of the plant port with no fill at any nozzle. -/
theorem exec_linkTimeout_plant_quiet (s : State) (h : s.ctl.atRest)
    (htimer : (s.ctl.port plantPort).linkTimer.isSome = true) (hstart : s.ctl.pendingStart = none)
    (hquiet : ∀ n, (s.ctl.ctx n).state.quiet) :
    exec (.linkTimeout plantPort) s = .next (s.withCtl { s.ctl.plantFell with
      pauseTimer := none, contexts := Vector.ofFn fun m => { s.ctl.ctx m with releaseOutstanding := false } }) := by
  have hwalk := s.ctl.plantFell.plantLostForAll_quiet allNozzles allNozzles_nodup fun n _ => hquiet n
  have hcontexts : contextsLost allNozzles s.ctl.contexts =
      Vector.ofFn fun m => { s.ctl.ctx m with releaseOutstanding := false } := by
    refine Vector.ext fun i hi => ?_
    have hget := contextsLost_get allNozzles allNozzles_nodup s.ctl.contexts ⟨i, hi⟩
    rw [if_pos (mem_allNozzles _)] at hget
    rw [Vector.getElem_ofFn]
    exact hget.trans ((s.ctl.ctx ⟨i, hi⟩).plantLost_quiet (hquiet _))
  have hlines := (s.ctl.plantFell_atRest h).2.2.1
  rw [exec_linkTimeout_plant s _ h htimer hstart hwalk (.inl rfl) h.2.1 rfl rfl, ← hcontexts]
  exact congrArg (fun c : Controller => Host.Outcome.next (s.withCtl { c with pauseTimer := none }))
    (Controller.settleLines_of_served
      { s.ctl.plantFell with contexts := contextsLost allNozzles s.ctl.contexts } hlines)

/-- R115: the loss of the plant port, where none is the next holder of a bank not configured. -/
theorem exec_linkTimeout_plant_lost (s : State) (h : s.ctl.atRest)
    (htimer : (s.ctl.port plantPort).linkTimer.isSome = true) (hstart : s.ctl.pendingStart = none)
    (hnext : ∀ b : BankId, s.ctl.alloc.bankCount ≤ b.val → (s.ctl.bank b).nextHolder = none) :
    ∃ e, exec (.linkTimeout plantPort) s = .next (s.withCtl { e.ctl.settleLines with pauseTimer := none }) ∧
      s.ctl.plantFell.LostAll allNozzles e := by
  obtain ⟨hrunning, howed, hlines, hfree⟩ := s.ctl.plantFell_atRest h
  have hknown : ∀ n, s.ctl.plantFell.alloc.knows n = false := fun n => s.ctl.alloc.fallen_knows n hnext
  have hall := s.ctl.plantFell.plantLostForAll_lost allNozzles allNozzles_nodup hknown
    fun n _ => ⟨hlines _, hfree _⟩
  refine ⟨_, exec_linkTimeout_plant s _ h htimer hstart rfl (.inl hall.events) (hall.owed.trans howed) ?_ ?_, hall⟩
  · rw [hall.alloc]
    rfl
  · rw [hall.alloc]
    rfl

/-- What it makes of each nozzle, seen from the state before the loss. -/
theorem Controller.LostAll.nozzle {c : Controller} {e : Eff} (h : c.plantFell.LostAll allNozzles e) (n : Nozzle) :
    c.LostAt e.ctl n :=
  (h.lost n (mem_allNozzles n)).congr rfl (c.plantFell_port _ (portOfNozzle_ne_plant n)).symm rfl rfl rfl

end Sys2Proof.Machine
end

section
/-! R96, R110, R112, R115: the loss of the plant port with one fill. -/

namespace Sys2Proof.Machine

/-! ## The same outcome seen with other contexts and without the pause -/

/-- The contexts of a controller replaced, its pause over. -/
def Controller.withContexts (c : Controller) (w : Vector Context 6) : Controller :=
  { c with contexts := w, pauseTimer := none }

/-- How the end of a fill is told rests on the ports, the ring and the settings. -/
theorem Controller.endIsTold_withContexts (c d : Controller) (w w' : Vector Context 6) (n : Nozzle) (r : Record)
    (h : c.endIsTold d n r) : (c.withContexts w).endIsTold (d.withContexts w') n r := by
  have hnotices : ∀ p kind body, ((c.withContexts w).notices p kind body).port p = (c.notices p kind body).port p := by
    intro p kind body
    rw [Controller.port_notices, Controller.port_notices]
    rfl
  have htwo : ∀ p k₁ b₁ k₂ b₂, (((c.withContexts w).notices p k₁ b₁).notices p k₂ b₂).port p =
      ((c.notices p k₁ b₁).notices p k₂ b₂).port p := by
    intro p k₁ b₁ k₂ b₂
    rw [Controller.port_notices ((c.withContexts w).notices p k₁ b₁), hnotices,
      Controller.port_notices (c.notices p k₁ b₁)]
  obtain ⟨hdispenser, htill⟩ := h
  refine ⟨fun hroom => ?_, fun hroom => ?_⟩
  · rw [hnotices]
    exact hdispenser hroom
  · obtain ⟨hwaits, hsends⟩ := htill hroom
    refine ⟨fun hw => ?_, fun hpacing hup => ?_⟩
    · rw [hnotices]
      exact hwaits hw
    · rw [htwo]
      exact hsends hpacing hup

theorem Controller.closesFill_withContexts (c d : Controller) (w : Vector Context 6) (n : Nozzle)
    (a : Authorisation) (r : Record) (f : FillLimits) (why : EndReason) (hw : w[n] = c.ctx n)
    (h : c.closesFill d n a r f why) :
    (c.withContexts w).closesFill (d.withContexts (w.set n (d.ctx n))) n a r f why := by
  obtain ⟨heq, hports, htold⟩ := h
  have hctx : (c.withContexts w).ctx n = c.ctx n := hw
  have hd : d.ctx n = _ := (congrArg (fun d : Controller => d.ctx n) heq).trans (Vector.getElem_set_self n.isLt)
  refine ⟨?_, hports, c.endIsTold_withContexts d w _ n _ htold⟩
  rw [hctx, hd]
  exact congrArg (Controller.withContexts · _) heq

theorem Controller.endsFill_withContexts (c d : Controller) (w : Vector Context 6) (n : Nozzle) (why : EndReason)
    (hw : w[n] = c.ctx n) (h : c.endsFill d n why) :
    (c.withContexts w).endsFill (d.withContexts (w.set n (d.ctx n))) n why := by
  obtain ⟨hrest, hdispenser, hplant, hkept, hcontexts, hring, halloc⟩ := h
  have hctx : (c.withContexts w).ctx n = c.ctx n := hw
  have hd : d.ctx n = _ := (congrArg (fun l : Vector Context 6 => l[n]) hcontexts).trans (Vector.getElem_set_self n.isLt)
  refine ⟨?_, fun hroom => ?_, fun hroom => ?_, hkept, ?_, ?_, ?_⟩
  · exact congrArg (Controller.withContexts · (w.set n (d.ctx n))) hrest
  · have horders := Controller.port_endOrders_congr (c := c) (d := c.withContexts w) (n := n) rfl (by rw [hctx])
      (by rw [hctx]) (by rw [hctx])
    rw [horders]
    exact hdispenser hroom
  · have hfrees := Controller.port_freesBank_congr (c := c) (d := c.withContexts w) (n := n) (by rw [hctx]) rfl
      fun b => ⟨_, rfl⟩
    rw [hfrees]
    exact hplant hroom
  · rw [hctx, hd]
    rfl
  · rw [hctx]
    exact hring
  · rw [hctx]
    exact halloc

theorem Controller.fillCloses_withContexts (c d : Controller) (w : Vector Context 6) (n : Nozzle)
    (a : Authorisation) (r : Record) (f : FillLimits) (hw : w[n] = c.ctx n)
    (h : c.fillCloses d n a r f) :
    (c.withContexts w).fillCloses (d.withContexts (w.set n (d.ctx n))) n a r f := by
  obtain ⟨heq, hports⟩ := h
  have hctx : (c.withContexts w).ctx n = c.ctx n := hw
  have hd : d.ctx n = _ := (congrArg (fun d : Controller => d.ctx n) heq).trans (Vector.getElem_set_self n.isLt)
  refine ⟨?_, hports⟩
  rw [hctx, hd]
  exact congrArg (Controller.withContexts · _) heq

end Sys2Proof.Machine
end

section
/-! R96, R110, R112, R115: the loss of the plant port with one fill. -/

namespace Sys2Proof.Machine

/-! ## The walk over the contexts, one of which has a fill -/

/-- An operation on one nozzle's fill that spares every other one, and starts a grant pass at most. -/
abbrev Controller.Spares (c : Controller) (n : Nozzle) (e : Eff) : Prop :=
  (e.events = [] ∨ e.events = [.grantPass false]) ∧ (e.ctl.alloc = c.alloc ∨ e.ctl.alloc = c.alloc.without n) ∧
    c.KeepsBut n e.ctl

theorem grantPass_or_none {l : List Event} {b : Bool} (h : l = if b then [.grantPass false] else []) :
    l = [] ∨ l = [.grantPass false] := by
  cases b
  · exact .inl h
  · exact .inr h

/-- The loss of the plant port reaches one context alone, and starts a grant pass at most. -/
theorem Controller.plantLostFor_spares (c : Controller) (n : Nozzle) (hports : c.tellsAt (portOfNozzle n)) :
    c.Spares n (c.plantLostFor n) := by
  obtain ⟨hl, hfree⟩ := hports
  have hquiet : (c.ctx n).state.quiet → c.Spares n (c.plantLostFor n) := fun h => by
    rw [c.plantLostFor_quiet n h]
    exact ⟨.inl rfl, .inl rfl, c.updCtx_keepsBut n _⟩
  have hwaits : (c.ctx n).state = .authorised ∨ (c.ctx n).state = .waitResources →
      c.Spares n (c.plantLostFor n) := fun h => by
    obtain ⟨hkeeps, halloc, -⟩ := (c.updCtx n Context.plantLost).closeWithoutFlow_keeps n .plantLink
    rw [c.plantLostFor_waits n h]
    exact ⟨grantPass_or_none (Controller.closeWithoutFlow_events _ _ _), .inr halloc, (c.updCtx_keepsBut n _).trans hkeeps⟩
  have hflows : (c.ctx n).state.flows → c.Spares n (c.plantLostFor n) := fun h => by
    obtain ⟨hkeeps, halloc, -⟩ := (c.plantGone n).beginEnding_keeps n .plantLink (by rw [c.plantGone_ctx]; rfl) hl hfree
    rw [c.plantLostFor_flows n h]
    exact ⟨grantPass_or_none (Controller.beginEnding_events _ _ _), .inr halloc, (c.updCtx_keepsBut n _).trans hkeeps⟩
  cases hstate : (c.ctx n).state
  case idle => exact hquiet (.inl hstate)
  case connected => exact hquiet (.inr (.inl hstate))
  case complete => exact hquiet (.inr (.inr hstate))
  case authorised => exact hwaits (.inl hstate)
  case waitResources => exact hwaits (.inr hstate)
  case leakCheck => exact hflows (.inl hstate)
  case ramping => exact hflows (.inr (.inl hstate))
  case hold => exact hflows (.inr (.inr hstate))
  case ending =>
    obtain ⟨hkeeps, halloc⟩ := ((c.plantGone n).updCtx n fun x => { x with bankSettled := true }).settleEnding_keeps n
    rw [c.plantLostFor_ends n hstate]
    exact ⟨.inl rfl, .inl halloc, ((c.updCtx_keepsBut n _).trans (Controller.updCtx_keepsBut _ n _)).trans hkeeps⟩

theorem Controller.plantLostForAll_append (c : Controller) (l l' : List Nozzle) :
    c.plantLostForAll (l ++ l') = (c.plantLostForAll l).andThen fun d => d.plantLostForAll l' := by
  induction l generalizing c with
  | nil => rfl
  | cons n l ih =>
    simp only [List.cons_append, Controller.plantLostForAll, Eff.andThen, ih, List.append_assoc]

/-- The contexts of a controller, the loss of the plant port told to each. -/
def Controller.allPlantLost (c : Controller) : Vector Context 6 := Vector.ofFn fun m => (c.ctx m).plantLost

theorem Controller.allPlantLost_get (c : Controller) (n : Nozzle) : c.allPlantLost[n] = (c.ctx n).plantLost :=
  Vector.getElem_ofFn n.isLt

/-- The loss of the plant port with one fill: the contexts before its own have been told before, the others after. -/
theorem Controller.plantLostForAll_one (c : Controller) (n : Nozzle)
    (hports : c.tellsAt (portOfNozzle n)) (hquiet : ∀ m, m ≠ n → (c.ctx m).state.quiet) :
    ∃ v : Vector Context 6, v[n] = c.ctx n ∧
      c.plantLostForAll allNozzles =
        ⟨{ ({ c with contexts := v }.plantLostFor n).ctl with
            contexts := c.allPlantLost.set n (({ c with contexts := v }.plantLostFor n).ctl.ctx n) },
          ({ c with contexts := v }.plantLostFor n).events⟩ := by
  obtain ⟨pre, post, hsplit⟩ := List.append_of_mem (mem_allNozzles n)
  have hnodup := allNozzles_nodup
  rw [hsplit] at hnodup
  obtain ⟨hpre, hpost, hdisjoint⟩ := List.nodup_append.1 hnodup
  obtain ⟨hn, hpost⟩ := List.nodup_cons.1 hpost
  have hnpre : n ∉ pre := fun h => hdisjoint n h n List.mem_cons_self rfl
  have hafter : ∀ m ∈ post, m ∉ pre := fun m hm h => hdisjoint m h m (List.mem_cons_of_mem n hm) rfl
  have hfirst := c.plantLostForAll_quiet pre hpre fun m hm => hquiet m fun h => hnpre (h ▸ hm)
  have hget := contextsLost_get pre hpre c.contexts
  generalize contextsLost pre c.contexts = v at hfirst hget
  obtain ⟨-, -, hkeeps⟩ := { c with contexts := v }.plantLostFor_spares n hports
  refine ⟨v, (hget n).trans (if_neg hnpre), ?_⟩
  rw [hsplit, c.plantLostForAll_append, hfirst, Eff.of_andThen, Controller.plantLostForAll]
  generalize { c with contexts := v }.plantLostFor n = e at hkeeps
  have hctx : ∀ m, m ≠ n → e.ctl.ctx m = if m ∈ pre then (c.ctx m).plantLost else c.ctx m :=
    fun m hm => (hkeeps.ctx m hm).trans (hget m)
  have hne : ∀ m ∈ post, m ≠ n := fun m hm h => hn (h ▸ hm)
  have hlast := e.ctl.plantLostForAll_quiet post hpost fun m hm => by
    rw [hctx m (hne m hm), if_neg (hafter m hm)]
    exact hquiet m (hne m hm)
  have hcontexts : contextsLost post e.ctl.contexts = c.allPlantLost.set n (e.ctl.ctx n) := by
    refine Vector.ext fun i hi => ?_
    have hlost := contextsLost_get post hpost e.ctl.contexts ⟨i, hi⟩
    refine hlost.trans ?_
    by_cases hin : (⟨i, hi⟩ : Nozzle) = n
    · subst hin
      rw [if_neg hn, Vector.getElem_set_self]
      rfl
    · have hother := hctx ⟨i, hi⟩ hin
      rw [Vector.getElem_set_ne _ _ fun h => hin (Fin.ext h.symm)]
      have hall := c.allPlantLost_get ⟨i, hi⟩
      have hmem := mem_allNozzles ⟨i, hi⟩
      rw [hsplit] at hmem
      refine Eq.trans ?_ hall.symm
      rcases List.mem_append.1 hmem with hmem | hmem
      · rw [if_pos hmem] at hother
        rw [if_neg fun h => hafter _ h hmem]
        exact hother
      · have hmem := (List.mem_cons.1 hmem).resolve_left hin
        rw [if_neg (hafter _ hmem)] at hother
        rw [if_pos hmem]
        exact congrArg Context.plantLost hother
  rw [Eff.andThen, hlast, hcontexts]
  simp [Eff.of]

/-- R115: the loss of the plant port with one fill. -/
theorem exec_linkTimeout_plant_one (s : State) (n : Nozzle) (h : s.ctl.atRest)
    (htimer : (s.ctl.port plantPort).linkTimer.isSome = true) (hstart : s.ctl.pendingStart = none)
    (hquiet : ∀ m, m ≠ n → (s.ctl.ctx m).state.quiet) :
    ∃ v : Vector Context 6, v[n] = s.ctl.ctx n ∧
      exec (.linkTimeout plantPort) s = .next (s.withCtl
        (({ s.ctl.plantFell with contexts := v }.plantLostFor n).ctl.settleLines.withContexts
          (s.ctl.allPlantLost.set n (({ s.ctl.plantFell with contexts := v }.plantLostFor n).ctl.ctx n)))) := by
  obtain ⟨-, howed, hlines, hfree⟩ := s.ctl.plantFell_atRest h
  obtain ⟨v, hv, hwalk⟩ := s.ctl.plantFell.plantLostForAll_one n ⟨hlines _, hfree _⟩ hquiet
  obtain ⟨hevents, halloc, hkeeps⟩ := { s.ctl.plantFell with contexts := v }.plantLostFor_spares n ⟨hlines _, hfree _⟩
  refine ⟨v, hv, exec_linkTimeout_plant s _ h htimer hstart hwalk hevents (hkeeps.owed.trans howed) ?_ ?_⟩
  · rcases halloc with halloc | halloc <;> exact (congrArg Allocator.precoolList halloc).trans rfl
  · rcases halloc with halloc | halloc <;> exact (congrArg Allocator.compressorClaim halloc).trans rfl

end Sys2Proof.Machine
end

section
/-! R96, R110, R112, R115: what becomes of the one fill that the loss of the plant port finds. -/

namespace Sys2Proof.Machine

theorem Controller.updCtx_withContexts (c : Controller) (n : Nozzle) (g : Context → Context)
    (w : Vector Context 6) : (c.updCtx n g).withContexts w = c.withContexts w := rfl

/-- The outcome `d` for nozzle `n`, seen with the contexts `w` of the others. -/
def Controller.among (d : Controller) (w : Vector Context 6) (n : Nozzle) : Controller :=
  d.withContexts (w.set n (d.ctx n))

theorem Controller.among_set (d : Controller) (w : Vector Context 6) (n : Nozzle) (x : Context) :
    d.among (w.set n x) n = d.among w n := by
  rw [Controller.among, Controller.among, Vector.set_set]

/-- R96, R115: a fill in AUTHORISED or WAIT_RESOURCES is closed without flow. -/
theorem Controller.plantLostFor_closes (c : Controller) (n : Nozzle) (a : Authorisation) (r : Record) (f : FillLimits)
    (w : Vector Context 6) (hw : w[n] = (c.ctx n).plantLost) (hl : c.linesServed)
    (hfree : ∀ p, (c.port p).answerPlace = false) (hfill : c.hasFill n a r f)
    (hstate : (c.ctx n).state = .authorised ∨ (c.ctx n).state = .waitResources) :
    (c.withContexts w).closesFill ((c.plantLostFor n).ctl.settleLines.among w n) n a r f .plantLink := by
  rw [c.plantLostFor_waits n hstate, ← c.updCtx_withContexts n Context.plantLost]
  have hlost : (c.updCtx n Context.plantLost).ctx n = (c.ctx n).plantLost := c.ctx_updCtx_self n _
  have hfill' : (c.updCtx n Context.plantLost).hasFill n a r f := hfill.of_eq (by rw [hlost]; rfl) rfl rfl
  exact Controller.closesFill_withContexts _ _ w n a r f .plantLink (hw.trans hlost.symm)
    (Controller.closeWithoutFlow_closes _ n a r f .plantLink hfill' hl hfree)

/-- R110, R115: a fill with flow enters ENDING without a bank. -/
theorem Controller.plantLostFor_endsFill (c : Controller) (n : Nozzle)
    (w : Vector Context 6) (hw : w[n] = (c.ctx n).plantLost.forgotten) (hl : c.linesServed)
    (hfree : ∀ p, (c.port p).answerPlace = false) (hstate : (c.ctx n).state.flows) :
    (c.withContexts w).endsFill ((c.plantLostFor n).ctl.settleLines.among w n) n .plantLink := by
  rw [c.plantLostFor_flows n hstate, ← show (c.plantGone n).withContexts w = c.withContexts w from rfl]
  exact Controller.endsFill_withContexts _ _ w n .plantLink (hw.trans (c.plantGone_ctx n).symm)
    ((c.plantGone n).beginEnding_ends n .plantLink hl hfree)

/-- R112: a context whose bank is settled by the loss of the plant port. -/
def Context.bankLost (x : Context) : Context := { x.plantLost.forgotten with bankSettled := true }

theorem Controller.plantLostFor_settles (c : Controller) (n : Nozzle) (h : (c.ctx n).state = .ending) :
    (c.plantLostFor n).ctl = (c.updCtx n Context.bankLost).settleEnding n := by
  rw [c.plantLostFor_ends n h, Controller.plantGone, Controller.updCtx_updCtx]
  rfl

/-- R112, R115: a fill in ENDING whose vent is settled is closed. -/
theorem Controller.plantLostFor_fillCloses (c : Controller) (n : Nozzle) (a : Authorisation) (r : Record)
    (f : FillLimits) (w : Vector Context 6) (hw : w[n] = (c.ctx n).bankLost) (hl : c.linesServed)
    (hfree : ∀ p, (c.port p).answerPlace = false) (hfill : c.hasFill n a r f) (hstate : (c.ctx n).state = .ending)
    (hvent : (c.ctx n).ventSettled = true) :
    (c.withContexts w).fillCloses ((c.plantLostFor n).ctl.settleLines.among w n) n a r f ∧
      (c.withContexts w).endIsTold ((c.plantLostFor n).ctl.settleLines.among w n) n (c.billing f r) := by
  rw [c.plantLostFor_settles n hstate, ← c.updCtx_withContexts n Context.bankLost]
  have hlost : (c.updCtx n Context.bankLost).ctx n = (c.ctx n).bankLost := c.ctx_updCtx_self n _
  have hfill' : (c.updCtx n Context.bankLost).hasFill n a r f := hfill.of_eq (by rw [hlost]; rfl) rfl rfl
  obtain ⟨hcloses, htold⟩ := Controller.settleEnding_closes _ n a r f hfill' hl hfree
    (by rw [hlost]; exact hstate) (by rw [hlost]; exact hvent) (by rw [hlost]; rfl)
  exact ⟨Controller.fillCloses_withContexts _ _ w n a r f (hw.trans hlost.symm) hcloses,
    Controller.endIsTold_withContexts _ _ w _ n _ htold⟩

/-- R112, R115: a fill in ENDING whose vent is not settled waits for it. -/
theorem Controller.plantLostFor_stays (c : Controller) (n : Nozzle) (w : Vector Context 6)
    (hw : w[n] = (c.ctx n).bankLost) (hl : c.linesServed) (hstate : (c.ctx n).state = .ending)
    (hvent : (c.ctx n).ventSettled = false) :
    (c.plantLostFor n).ctl.settleLines.among w n = c.withContexts w := by
  have hlost : (c.updCtx n Context.bankLost).ctx n = (c.ctx n).bankLost := c.ctx_updCtx_self n _
  have hself : w.set n (c.ctx n).bankLost = w := by
    rw [← hw]
    exact Vector.set_getElem_self n.isLt
  rw [c.plantLostFor_settles n hstate, Controller.settleEnding_waits _ n (by rw [hlost]; exact hvent),
    Controller.settleLines_of_served (c.updCtx n Context.bankLost) hl, Controller.among, hlost, hself,
    Controller.updCtx_withContexts]

end Sys2Proof.Machine
end

section
/-! R6, R7, R114, R115: the loss of a link. -/

namespace Sys2Proof.Machine

/-- R110, R112, R115: the loss of the plant port with one fill, by the state of the fill. -/
theorem exec_linkTimeout_plant_fill (s : State) (n : Nozzle) (a : Authorisation) (r : Record) (f : FillLimits)
    (h : s.ctl.atRest) (htimer : (s.ctl.port plantPort).linkTimer.isSome = true) (hstart : s.ctl.pendingStart = none)
    (hfill : s.ctl.hasFill n a r f) (hquiet : ∀ m, m ≠ n → (s.ctl.ctx m).state.quiet) :
    ∃ t, exec (.linkTimeout plantPort) s = .next t ∧
      ((s.ctl.ctx n).state = .authorised ∨ (s.ctl.ctx n).state = .waitResources →
        (s.ctl.plantFell.withContexts s.ctl.allPlantLost).closesFill t.ctl n a r f .plantLink) ∧
      ((s.ctl.ctx n).state.flows →
        (s.ctl.plantFell.withContexts (s.ctl.allPlantLost.set n (s.ctl.ctx n).plantLost.forgotten)).endsFill t.ctl n
          .plantLink) ∧
      ((s.ctl.ctx n).state = .ending →
        ((s.ctl.ctx n).ventSettled = true →
          (s.ctl.plantFell.withContexts (s.ctl.allPlantLost.set n (s.ctl.ctx n).bankLost)).fillCloses t.ctl n a r f ∧
          (s.ctl.plantFell.withContexts (s.ctl.allPlantLost.set n (s.ctl.ctx n).bankLost)).endIsTold t.ctl n
            (s.ctl.billing f r)) ∧
        ((s.ctl.ctx n).ventSettled = false →
          t = s.withCtl (s.ctl.plantFell.withContexts (s.ctl.allPlantLost.set n (s.ctl.ctx n).bankLost)))) := by
  obtain ⟨-, -, hlines, hfree⟩ := s.ctl.plantFell_atRest h
  obtain ⟨v, hv, hexec⟩ := exec_linkTimeout_plant_one s n h htimer hstart hquiet
  have hctx : { s.ctl.plantFell with contexts := v }.ctx n = s.ctl.ctx n := hv
  have hfill' : { s.ctl.plantFell with contexts := v }.hasFill n a r f := hfill.of_eq (by rw [hctx]) rfl rfl
  have hwith : ∀ w, { s.ctl.plantFell with contexts := v }.withContexts w = s.ctl.plantFell.withContexts w := fun _ => rfl
  have hlines' : { s.ctl.plantFell with contexts := v }.linesServed := hlines
  have hfree' : ∀ p, ({ s.ctl.plantFell with contexts := v }.port p).answerPlace = false := hfree
  have hbilling : { s.ctl.plantFell with contexts := v }.billing f r = s.ctl.billing f r := rfl
  generalize { s.ctl.plantFell with contexts := v } = c at hctx hfill' hwith hlines' hfree' hbilling hexec
  have hset : ∀ x, (s.ctl.allPlantLost.set n x)[n] = x := fun x => Vector.getElem_set_self n.isLt
  refine ⟨_, hexec, fun hstate => ?_, fun hstate => ?_, fun hstate => ⟨fun hvent => ?_, fun hvent => ?_⟩⟩
  · have hcloses := c.plantLostFor_closes n a r f s.ctl.allPlantLost (by rw [s.ctl.allPlantLost_get, hctx]) hlines' hfree'
      hfill' (by rwa [hctx])
    rwa [hwith] at hcloses
  · have hends := c.plantLostFor_endsFill n (s.ctl.allPlantLost.set n (s.ctl.ctx n).plantLost.forgotten)
      (by rw [hset, hctx]) hlines' hfree' (by rwa [hctx])
    rwa [hwith, Controller.among_set] at hends
  · have hcloses := c.plantLostFor_fillCloses n a r f (s.ctl.allPlantLost.set n (s.ctl.ctx n).bankLost)
      (by rw [hset, hctx]) hlines' hfree' hfill' (by rwa [hctx]) (by rwa [hctx])
    rwa [hwith, Controller.among_set, hbilling] at hcloses
  · have hstays := c.plantLostFor_stays n (s.ctl.allPlantLost.set n (s.ctl.ctx n).bankLost)
      (by rw [hset, hctx]) hlines' (by rwa [hctx]) (by rwa [hctx])
    rw [hwith, Controller.among_set] at hstays
    exact congrArg s.withCtl hstays

end Sys2Proof.Machine
end

section
/-! R6, R7, R114, R115: the loss of a link, and the obligation. -/

namespace Sys2Proof.Machine

/-- R114: the ports once a fill that held the gas path has been cut off by the loss of its dispenser port. -/
theorem Controller.fell_cutClosed_ports (c : Controller) (n : Nozzle) (a : Authorisation) (r : Record) (f : FillLimits)
    (h : c.atRest) (hfill : c.hasFill n a r f) :
    ((c.fell (portOfNozzle n)).cutClosed n).port (portOfNozzle n) = (c.port (portOfNozzle n)).fallen ∧
      (c.fell (portOfNozzle n)).endIsTold ((c.fell (portOfNozzle n)).cutClosed n) n
        (c.billing f ((c.fell (portOfNozzle n)).cutRecord n r)) ∧
      (c.room plantPort →
        ((c.fell (portOfNozzle n)).cutClosed n).port plantPort = (c.freesBank n).port plantPort) ∧
      ∀ q, q ≠ portOfNozzle n → q ≠ plantPort → q ≠ tillPort →
        ((c.fell (portOfNozzle n)).cutClosed n).port q = c.port q := by
  obtain ⟨-, -, hlines, hfree⟩ := c.fell_atRest (portOfNozzle n) h
  have hself : (c.fell (portOfNozzle n)).port (portOfNozzle n) = (c.port (portOfNozzle n)).fallen :=
    c.port_setPort_self _ _
  have hother : ∀ q, q ≠ portOfNozzle n → (c.fell (portOfNozzle n)).port q = c.port q := fun q => c.port_setPort_ne _
  have hplantPort := hother plantPort (portOfNozzle_ne_plant n).symm
  obtain ⟨htells, hplant, hkept⟩ := (c.fell (portOfNozzle n)).cutClosed_ports n a r f hfill hlines hfree
  refine ⟨?_, htells, fun hroom => ?_, fun q hp hq ht => (hkept q hp hq ht).trans (hother q hp)⟩
  · rw [(c.fell (portOfNozzle n)).cutClosed_port_dispenser n a r f hfill (by rw [hself]; rfl) (hlines _) (hfree _), hself]
  · rw [hplant (by rwa [Controller.room, hplantPort])]
    exact Controller.port_freesBank_congr rfl hplantPort fun b => ⟨_, rfl⟩

/-- R114: the bank records once the fill's bank, where it has one, has been asked for its release. -/
theorem Controller.fell_banksAsked (c : Controller) (n : Nozzle) :
    ((c.fell (portOfNozzle n)).lossCut n).banksAsked n = match (c.ctx n).currentBank with
      | some b => (c.alloc.without n).banks.set b.bank
          ((c.alloc.without n).banks[b.bank].released (.nozzle n) (c.port plantPort).tagCounter c.orderTime)
      | none => (c.alloc.without n).banks := by
  rw [Controller.lossCut_banksAsked, Controller.fell, c.port_setPort_ne _ (portOfNozzle_ne_plant n).symm]
  show (c.ctx n).currentBank.elim _ _ = _
  cases (c.ctx n).currentBank <;> rfl

/-- The lines settled leave a port as its loss left it. -/
theorem Controller.settleLines_port_of_served {c d : Controller} (p : PortId) (h : d.port p = c.port p)
    (hl : (c.port p).line = none → (c.port p).outbound = []) : d.settleLines.port p = c.port p := by
  rw [Controller.port_settleLines, h]
  exact PortRec.pump_eq_self _ hl

/-- R7: the plant port stays DOWN, its queues empty, whatever the contexts do. -/
theorem Controller.LostAll.port_plant {c : Controller} {e : Eff} (h : c.plantFell.LostAll allNozzles e) :
    e.ctl.settleLines.port plantPort = (c.port plantPort).fallen := by
  rw [Controller.port_settleLines, h.plant, c.plantFell_port_plant, PortRec.fallen_pump]

end Sys2Proof.Machine

open Sys2Proof Sys2Proof.Machine in
/-- Settles O23: the loss of the till port and of a dispenser port by the state of the nozzle, the loss of the plant port by
the walk over the contexts, which reaches each nozzle once. -/
theorem linksAreLost : Obligations.links_are_lost := by
  unfold Obligations.links_are_lost
  refine ⟨exec_linkTimeout_idle, fun s n a r f h htimer => ⟨fun hstate => ?_, fun hcalm hfill => ⟨fun hstate => ?_, ?_⟩⟩,
    fun s h htimer hstart hquiet => ?_, fun s h htimer hstart hnext => ?_,
    fun s n a r f h htimer hstart hfill hquiet => ?_⟩
  · exact exec_linkTimeout_off s n h htimer hstate
  · exact exec_linkTimeout_closes s n a r f hcalm htimer hfill hstate
  · intro hstate cut
    have hcut : (fun q => s.ctl.billing f ((s.ctl.fell (portOfNozzle n)).cutRecord n q)) = cut := by
      funext q
      unfold cut Controller.cutRecord Controller.bankClosing Context.lossCutRecord
      rw [show (s.ctl.fell (portOfNozzle n)).ctx n = s.ctl.ctx n from rfl]
      cases (s.ctl.ctx n).currentBank <;> by_cases hending : (s.ctl.ctx n).state = .ending <;>
        simp only [hending, if_true, if_false] <;> rfl
    obtain ⟨hdispenser, htold, hplant, hkept⟩ := s.ctl.fell_cutClosed_ports n a r f hcalm.1 hfill
    have heq := (s.ctl.fell (portOfNozzle n)).cutClosed_eq n a r f hfill
    refine ⟨_, exec_linkTimeout_cuts s n a r f hcalm htimer hfill hstate, ?_, hdispenser, ?_, hplant, hkept⟩
    · rw [Context.lossCut_eq, s.ctl.fell_banksAsked n] at heq
      exact congrArg s.withCtl (heq.trans (hcut ▸ rfl))
    · exact congrFun hcut r ▸ htold
  · exact exec_linkTimeout_plant_quiet s h htimer hstart hquiet
  · obtain ⟨e, hexec, hall⟩ := exec_linkTimeout_plant_lost s h htimer hstart hnext
    obtain ⟨-, -, hlines, -⟩ := h
    refine ⟨_, hexec, hall.alloc, hall.sched, rfl, hall.port_plant, fun n => ?_⟩
    obtain ⟨hctx, htold, hkept⟩ := hall.nozzle n
    refine ⟨hctx.trans ?_, fun hflows hroom => ?_, fun hquiet => ?_⟩
    · rw [Context.afterPlantLoss]
      rfl
    · exact (Controller.port_settleLines _ _).trans (htold hflows hroom)
    · refine Controller.settleLines_port_of_served _ (hkept ?_) (hlines _)
      rcases hquiet with hidle | hconnected | hcomplete | hending
      · exact .inl (.inl hidle)
      · exact .inl (.inr (.inl hconnected))
      · exact .inl (.inr (.inr hcomplete))
      · exact .inr hending
  · obtain ⟨t, hexec, hcloses, hends, hsettles⟩ := exec_linkTimeout_plant_fill s n a r f h htimer hstart hfill hquiet
    intro c x cleared gone settled
    have hlost : cleared.ctx n = x.plantLost := c.allPlantLost_get n
    have hgone : gone = c.plantFell.withContexts (c.allPlantLost.set n x.plantLost.forgotten) := by
      unfold gone
      rw [hlost]
      rfl
    have hforgotten : gone.ctx n = x.plantLost.forgotten := by
      rw [hgone]
      exact Vector.getElem_set_self n.isLt
    have hsettled : settled = c.plantFell.withContexts (c.allPlantLost.set n x.bankLost) := by
      unfold settled
      rw [hforgotten, hgone]
      exact congrArg c.plantFell.withContexts (Vector.set_set ..)
    rw [hgone, hsettled]
    exact ⟨t, hexec, hcloses, hends, hsettles⟩
end

-- Storage banks: what every operation keeps of the bank records.
section
/-! R34, R35: how a bank record may change in the course of a step. What the blocks tell one another frees no bank and
isolates none: it grants IDLE banks, asks for releases, and makes and forgets next holders. -/

namespace Sys2Proof.Machine

/-! ## The records of one bank -/

/-- What the events of a step may make of a bank record: its measured values stand; a bank that is not IDLE keeps its
state, its holder and its generation; state and holder stay together (R34); an ISOLATED bank has no order and no release
of its own; and only a REFILLING bank is given a next holder (R57). -/
structure BankRec.Follows (r q : BankRec) : Prop where
  measured : q.tier = r.tier ∧ q.pressure = r.pressure ∧ q.temperature = r.temperature
  tenure : r.state ≠ .idle → q.state = r.state ∧ q.holder = r.holder ∧ q.generation = r.generation
  agrees : r.agrees = true → q.agrees = true
  shut : r.state = .isolated → r.holder = none → q.order = r.order ∧ q.releasePending = r.releasePending
  next : r.state ≠ .idle → r.state ≠ .refilling → r.nextHolder = none → q.nextHolder = none

theorem BankRec.Follows.refl (r : BankRec) : r.Follows r :=
  ⟨⟨rfl, rfl, rfl⟩, fun _ => ⟨rfl, rfl, rfl⟩, id, fun _ _ => ⟨rfl, rfl⟩, fun _ _ => id⟩

theorem BankRec.Follows.trans {r q p : BankRec} (h : r.Follows q) (h' : q.Follows p) : r.Follows p := by
  obtain ⟨⟨ht, hp, hd⟩, htenure, hagrees, hshut, hnext⟩ := h
  obtain ⟨⟨ht', hp', hd'⟩, htenure', hagrees', hshut', hnext'⟩ := h'
  refine ⟨⟨ht'.trans ht, hp'.trans hp, hd'.trans hd⟩, fun hi => ?_, fun ha => hagrees' (hagrees ha), fun hs hh => ?_,
    fun hi hr hn => ?_⟩
  · obtain ⟨hs, hh, hg⟩ := htenure hi
    obtain ⟨hs', hh', hg'⟩ := htenure' (hs ▸ hi)
    exact ⟨hs'.trans hs, hh'.trans hh, hg'.trans hg⟩
  · obtain ⟨hs₁, hh₁, -⟩ := htenure (by simp [hs])
    obtain ⟨ho, hr⟩ := hshut hs hh
    obtain ⟨ho', hr'⟩ := hshut' (hs₁.trans hs) (hh₁.trans hh)
    exact ⟨ho'.trans ho, hr'.trans hr⟩
  · obtain ⟨hs₁, -, -⟩ := htenure hi
    exact hnext' (hs₁ ▸ hi) (hs₁ ▸ hr) (hnext hi hr hn)

/-- R34: state and holder alone are compared. -/
theorem BankRec.agrees_congr {r q : BankRec} (hs : q.state = r.state) (hh : q.holder = r.holder) :
    q.agrees = r.agrees := by
  rw [BankRec.agrees, BankRec.agrees, hs, hh]

/-- An order handed or settled, and a release noted, at a bank that has a holder. -/
theorem BankRec.follows_valve (r : BankRec) (o : Option ValveOrder) (p : Bool) (h : r.holder ≠ none) :
    r.Follows { r with order := o, releasePending := p } :=
  ⟨⟨rfl, rfl, rfl⟩, fun _ => ⟨rfl, rfl, rfl⟩, id, fun _ hh => absurd hh h, fun _ _ => id⟩

/-- A next holder that is forgotten or renamed. -/
theorem BankRec.follows_next (r : BankRec) (k : Option BankClaim) (h : r.nextHolder = none → k = none) :
    r.Follows { r with nextHolder := k } :=
  ⟨⟨rfl, rfl, rfl⟩, fun _ => ⟨rfl, rfl, rfl⟩, id, fun _ _ => ⟨rfl, rfl⟩, fun _ _ => h⟩

/-- R57: a bank being refilled is preempted. -/
theorem BankRec.follows_preempted (r : BankRec) (k : Option BankClaim) (o : Option ValveOrder) (p : Bool)
    (h : r.state = .refilling) : r.Follows { r with nextHolder := k, order := o, releasePending := p } :=
  ⟨⟨rfl, rfl, rfl⟩, fun _ => ⟨rfl, rfl, rfl⟩, id, fun hs _ => absurd hs (by simp [h]), fun _ hr => absurd h hr⟩

/-- R36: an IDLE bank is granted. -/
theorem BankRec.follows_granted (r : BankRec) (h : Holder) (tag : Octet) (time : Nat) (hi : r.state = .idle) :
    r.Follows (r.granted h tag time) := by
  refine ⟨⟨rfl, rfl, rfl⟩, fun hn => absurd hi hn, fun _ => ?_, fun hs => ?_, fun hn => absurd hi hn⟩
  · cases h <;> rfl
  · rw [hi] at hs
    cases hs

/-- R34: a bank without a holder is given out of use or put back. -/
theorem BankRec.isolate_agrees (r : BankRec) : r.isolate.agrees = true := rfl

/-! ## The records of all banks -/

/-- Every bank record of one table follows that of another. -/
def BanksFollow (v w : Vector BankRec 12) : Prop := ∀ b : BankId, v[b].Follows w[b]

theorem BanksFollow.refl (v : Vector BankRec 12) : BanksFollow v v := fun b => .refl v[b]

/-- An event that is no sample of a bank. -/
def Event.unsampled : Event → Bool
  | .bankSampleEntry _ _ _ => false
  | _ => true

/-- An operation's effect after which the bank records follow a table's, and which tells of no sample. -/
def Eff.Follow (v : Vector BankRec 12) (e : Eff) : Prop :=
  BanksFollow v e.ctl.alloc.banks ∧ ∀ x ∈ e.events, x.unsampled = true

section Effects

variable {v : Vector BankRec 12} {e : Eff} {c : Controller}

theorem Eff.Follow.banks (h : e.Follow v) : BanksFollow v e.ctl.alloc.banks := h.1

@[simp] theorem Eff.follow_mk {l : List Event} :
    (⟨c, l⟩ : Eff).Follow v ↔ BanksFollow v c.alloc.banks ∧ ∀ x ∈ l, x.unsampled = true := Iff.rfl

@[simp] theorem Eff.follow_of : (Eff.of c).Follow v ↔ BanksFollow v c.alloc.banks := by
  simp [Eff.Follow]

@[simp] theorem Eff.follow_tell {l : List Event} :
    (e.tell l).Follow v ↔ e.Follow v ∧ ∀ x ∈ l, x.unsampled = true := by
  simp only [Eff.Follow, Eff.tell_ctl, Eff.tell_events, List.mem_append, or_imp, forall_and, and_assoc]

theorem Eff.Follow.change {f : Controller → Controller} (h : e.Follow v)
    (hf : ∀ d, BanksFollow v d.alloc.banks → BanksFollow v (f d).alloc.banks) : (e.change f).Follow v :=
  ⟨hf _ h.1, h.2⟩

theorem Eff.Follow.andThen {f : Controller → Eff} (h : e.Follow v)
    (hf : ∀ d, BanksFollow v d.alloc.banks → (f d).Follow v) : (e.andThen f).Follow v := by
  obtain ⟨hbanks, htold⟩ := hf _ h.1
  refine ⟨hbanks, ?_⟩
  simp only [Eff.andThen_events, List.mem_append, or_imp, forall_and]
  exact ⟨h.2, htold⟩

end Effects

/-- One bank record changed. -/
theorem BanksFollow.updBank {v : Vector BankRec 12} {c : Controller} {b : BankId} {f : BankRec → BankRec}
    (h : BanksFollow v c.alloc.banks) (hf : (c.bank b).Follows (f (c.bank b))) :
    BanksFollow v (c.updBank b f).alloc.banks := by
  intro d
  show v[d].Follows ((c.updBank b f).bank d)
  by_cases hd : d = b
  · subst hd
    rw [Controller.bank_updBank_self]
    exact (h d).trans hf
  · rw [c.bank_updBank_ne f hd]
    exact h d

/-! ## Operations that touch no bank record -/

namespace Controller

variable {c : Controller}

@[simp] theorem handOrder_alloc (p : PortId) (kind : Octet) (body : List Octet) :
    (c.handOrder p kind body).1.alloc = c.alloc := by
  rw [handOrder_eq]
  rfl

@[simp] theorem handNotice_alloc (p : PortId) (kind : Octet) (body : List Octet) :
    (c.handNotice p kind body).1.alloc = c.alloc := by
  rcases c.handNotice_cases p kind body with ⟨-, h⟩ | ⟨-, h⟩ <;> rw [h]
  rfl

@[simp] theorem notice_alloc (p : PortId) (kind : Octet) (body : List Octet) :
    (c.notice p kind body).alloc = c.alloc := handNotice_alloc p kind body

@[simp] theorem updRecordOf_alloc (n : Nozzle) (f : Record → Record) : (c.updRecordOf n f).alloc = c.alloc := by
  rw [updRecordOf_eq]

@[simp] theorem handRun_alloc (action : RunAction) (b : Option BankId) : (c.handRun action b).alloc = c.alloc := by
  simp [handRun]

@[simp] theorem callStop_alloc (b : Option BankId) : (c.callStop b).alloc = c.alloc := by
  unfold callStop
  split <;> [skip; split] <;> simp

@[simp] theorem claimGranted_alloc (b : BankId) : (c.claimGranted b).alloc = c.alloc := by
  simp [claimGranted]

@[simp] theorem judgeRunning_alloc : c.judgeRunning.alloc = c.alloc := by
  unfold judgeRunning
  split <;> simp

@[simp] theorem compressorValveOpened_alloc : c.compressorValveOpened.alloc = c.alloc := by
  unfold compressorValveOpened
  split <;> simp

@[simp] theorem judgeNotice_alloc : c.judgeNotice.alloc = c.alloc := by
  unfold judgeNotice
  split <;> [skip; split <;> [skip; split]] <;> simp

@[simp] theorem oweNotice_alloc : c.oweNotice.alloc = c.alloc := by simp [oweNotice]

@[simp] theorem ringTillUp_alloc : c.ringTillUp.alloc = c.alloc := by
  unfold ringTillUp
  split <;> simp

@[simp] theorem pacingExpired_alloc : c.pacingExpired.alloc = c.alloc := by simp [pacingExpired]

@[simp] theorem acknowledge_alloc (s : Nat) : (c.acknowledge s).alloc = c.alloc := by
  unfold acknowledge
  dsimp only
  split <;> simp

@[simp] theorem meterSample_alloc (n : Nozzle) (d : Nat) : (c.meterSample n d).alloc = c.alloc := by
  unfold meterSample
  extract_lets g mass metered added
  have ha : added.alloc = c.alloc := by simp [added]
  split <;> [split; skip] <;> simp [ha]

@[simp] theorem unexplainedFlow_alloc (n : Nozzle) (d : Nat) (count : BitVec 16) :
    (c.unexplainedFlow n d count).alloc = c.alloc := by
  unfold unexplainedFlow
  split <;> simp

@[simp] theorem takeCount_alloc (n : Nozzle) (count : BitVec 16) : (c.takeCount n count).alloc = c.alloc := by
  unfold takeCount
  dsimp only
  split <;> [skip; split <;> [skip; split]] <;> simp

@[simp] theorem compareTariff_alloc : c.compareTariff.alloc = c.alloc := by
  unfold compareTariff
  split <;> [split; skip] <;> rfl

@[simp] theorem driveFlow_alloc (n : Nozzle) : (c.driveFlow n).alloc = c.alloc := by
  unfold driveFlow
  dsimp only
  split <;> [skip; split] <;> simp

@[simp] theorem orderVent_alloc (n : Nozzle) : (c.orderVent n).alloc = c.alloc := by simp [orderVent]

@[simp] theorem ventIfShut_alloc (n : Nozzle) : (c.ventIfShut n).alloc = c.alloc := by
  unfold ventIfShut
  dsimp only
  split <;> simp

@[simp] theorem setReason_alloc (n : Nozzle) (why : EndReason) : (c.setReason n why).alloc = c.alloc := by
  simp [setReason]

@[simp] theorem settleEnding_alloc (n : Nozzle) : (c.settleEnding n).alloc = c.alloc := (c.settleEnding_keeps n).2

@[simp] theorem bankSettled_alloc (n : Nozzle) : (c.bankSettled n).alloc = c.alloc := by simp [bankSettled]

@[simp] theorem ventSettled_alloc (n : Nozzle) : (c.ventSettled n).alloc = c.alloc := by simp [ventSettled]

@[simp] theorem dropBank_alloc (n : Nozzle) (pressure : Option Nat) : (c.dropBank n pressure).alloc = c.alloc := by
  simp [dropBank]

@[simp] theorem forgetBank_alloc (n : Nozzle) : (c.forgetBank n).alloc = c.alloc := by simp [forgetBank]

@[simp] theorem openSegment_alloc (n : Nozzle) (ref : BankRef) (pressure : Option Nat) :
    (c.openSegment n ref pressure).alloc = c.alloc := by
  simp [openSegment]

@[simp] theorem addCause_alloc (n : Nozzle) (k : HoldCause) : (c.addCause n k).alloc = c.alloc := by
  unfold addCause
  split <;> simp

@[simp] theorem removeCause_alloc (n : Nozzle) (k : HoldCause) : (c.removeCause n k).alloc = c.alloc := by
  simp [removeCause_eq]

@[simp] theorem startPulse_alloc (n : Nozzle) : (c.startPulse n).alloc = c.alloc := by simp [startPulse]

@[simp] theorem valveOpened_alloc (n : Nozzle) (b : BankId) : (c.valveOpened n b).alloc = c.alloc := by
  unfold valveOpened
  dsimp only
  split
  · rfl
  · split <;> split <;> simp

@[simp] theorem startWindow_alloc (n : Nozzle) (reference restarts : Nat) :
    (c.startWindow n reference restarts).alloc = c.alloc := by
  simp [startWindow]

@[simp] theorem flowConfirmed_alloc (n : Nozzle) (action : Valve) : (c.flowConfirmed n action).alloc = c.alloc := by
  unfold flowConfirmed
  dsimp only
  split <;> simp

@[simp] theorem takeFlowConfirm_alloc (n : Nozzle) (tag generation state : Octet) :
    (c.takeFlowConfirm n tag generation state).alloc = c.alloc := by
  unfold takeFlowConfirm
  split <;> [split; skip] <;> simp

@[simp] theorem takeVentDone_alloc (n : Nozzle) (tag : Octet) (count : BitVec 16) :
    (c.takeVentDone n tag count).alloc = c.alloc := by
  unfold takeVentDone ventDone
  split <;> [split; skip] <;> simp

@[simp] theorem ventTimedOut_alloc (n : Nozzle) : (c.ventTimedOut n).alloc = c.alloc := by simp [ventTimedOut]

@[simp] theorem pulseDelayExpired_alloc (n : Nozzle) : (c.pulseDelayExpired n).alloc = c.alloc := by
  unfold pulseDelayExpired
  split <;> simp

@[simp] theorem pulseWidthExpired_alloc (n : Nozzle) : (c.pulseWidthExpired n).alloc = c.alloc := by
  unfold pulseWidthExpired
  split <;> simp

@[simp] theorem takeEntry_alloc (n : Nozzle) (e : RampInUse) : (c.takeEntry n e).alloc = c.alloc := by
  simp [takeEntry]

@[simp] theorem startRamp_alloc (n : Nozzle) : (c.startRamp n).alloc = c.alloc := by
  unfold startRamp
  dsimp only
  split <;> split <;> simp

@[simp] theorem progressExpired_alloc (n : Nozzle) : (c.progressExpired n).alloc = c.alloc := by
  unfold progressExpired
  split <;> simp

@[simp] theorem takeClass_alloc (new : PrecoolClass) (n : Nozzle) : (c.takeClass new n).alloc = c.alloc := by
  unfold takeClass
  dsimp only
  split <;> [(split <;> [split; split; skip; skip]); skip] <;> simp [degrade]

/-- What every step of a walk over nozzles leaves of the account, the walk leaves. -/
theorem foldl_alloc {f : Controller → Nozzle → Controller} (hf : ∀ d n, (f d n).alloc = d.alloc) (l : List Nozzle) :
    ∀ c : Controller, (l.foldl f c).alloc = c.alloc := by
  induction l with
  | nil => exact fun _ => rfl
  | cons n l ih => exact fun c => (ih (f c n)).trans (hf c n)

@[simp] theorem classChanged_alloc (new : PrecoolClass) : (c.classChanged new).alloc = c.alloc :=
  foldl_alloc (fun _ n => takeClass_alloc new n) _ c

@[simp] theorem endPause_alloc : c.endPause.alloc = c.alloc := by
  refine foldl_alloc (fun d n => ?_) _ _
  split <;> simp

@[simp] theorem pauseFills_alloc (seconds : Nat) : (c.pauseFills seconds).alloc = c.alloc := by
  unfold pauseFills
  dsimp only
  split <;> split
  · rfl
  · exact foldl_alloc (fun d n => addCause_alloc n _) _ _
  · exact endPause_alloc
  · rfl

/-- R71: a run order whose stop is not confirmed. -/
@[simp] theorem withdrawClaim_banks : c.withdrawClaim.alloc.banks = c.alloc.banks := by
  unfold withdrawClaim
  split <;> rfl

@[simp] theorem goFaulted_banks (why : FaultReason) (b : Option BankId) :
    (c.goFaulted why b).alloc.banks = c.alloc.banks := by
  simp [goFaulted]

@[simp] theorem takeStopTimeout_banks : c.takeStopTimeout.alloc.banks = c.alloc.banks := by
  unfold takeStopTimeout
  split <;> [split; skip] <;> simp [stopTimedOut]

end Controller

end Sys2Proof.Machine
end

section
/-! What the operations of the Allocator, the Scheduler and the Sequencer make of the bank records: each is a grant, a
release asked for, or a next holder made or forgotten. -/

namespace Sys2Proof.Machine

/-- A table whose records follow those of another, which follow a third. -/
theorem BanksFollow.of_banks {v : Vector BankRec 12} {c d : Controller} (h : BanksFollow v c.alloc.banks)
    (hd : ∀ b, (c.bank b).Follows (d.bank b)) : BanksFollow v d.alloc.banks := fun b => (h b).trans (hd b)

namespace Controller

/-- R37: an order handed for a bank's valve, and its record. -/
theorem handValve_eq (c : Controller) (b : BankId) (route : Holder) (action : Valve) :
    c.handValve b route action = (c.setPort plantPort ((c.port plantPort).ordered 0x50
      (bankValveBody b route action (c.bank b).generation (c.limitPressure b route action)))).setBank b
      { c.bank b with
        order := some ⟨action, (c.port plantPort).tagCounter, route, (c.bank b).generation, some c.orderTime⟩ } := by
  rw [handValve, handOrder_eq]
  rfl

/-- R36: a bank granted, and its OPEN order. -/
theorem grantBank_eq (c : Controller) (b : BankId) (h : Holder) :
    c.grantBank b h = (c.setPort plantPort ((c.port plantPort).ordered 0x50
      (bankValveBody b h .opened ((c.bank b).generation + 1) (c.limitPressure b h .opened)))).setBank b
      ((c.bank b).granted h (c.port plantPort).tagCounter c.orderTime) := by
  unfold grantBank
  rw [handValve_eq]
  cases h <;> simp [limitPressure, updBank, setBank, bank, setPort, port, BankRec.granted, orderTime]

section Follow

variable {v : Vector BankRec 12} {c : Controller}

@[simp] theorem setBank_follow {b : BankId} {r : BankRec} (h : BanksFollow v c.alloc.banks)
    (hr : (c.bank b).Follows r) : BanksFollow v (c.setBank b r).alloc.banks := h.updBank (f := fun _ => r) hr

theorem handValve_follow {b : BankId} {route : Holder} {action : Valve} (h : BanksFollow v c.alloc.banks)
    (hb : (c.bank b).holder ≠ none) : BanksFollow v (c.handValve b route action).alloc.banks := by
  rw [handValve_eq]
  exact setBank_follow h (BankRec.follows_valve (c.bank b) _ _ hb)

theorem grantBank_follow {b : BankId} {who : Holder} (h : BanksFollow v c.alloc.banks)
    (hb : (c.bank b).state = .idle) : BanksFollow v (c.grantBank b who).alloc.banks := by
  rw [grantBank_eq]
  exact setBank_follow h (BankRec.follows_granted (c.bank b) _ _ _ hb)

@[simp] theorem releaseBank_follow {b : BankId} {who : Holder} (h : BanksFollow v c.alloc.banks) :
    BanksFollow v (c.releaseBank b who).alloc.banks := by
  unfold releaseBank
  dsimp only
  split
  · exact h
  · rename_i hw
    have hheld : (c.bank b).holder ≠ none := fun hn => hw (by simp [hn])
    split <;> split
    · exact h.updBank (BankRec.follows_valve (c.bank b) _ _ hheld)
    · exact h
    · exact h
    · exact handValve_follow h hheld

/-- R61: a nozzle's next-holder places forgotten. -/
theorem clearNextHolder_follow {n : Nozzle} (h : BanksFollow v c.alloc.banks) :
    BanksFollow v (c.alloc.clearNextHolder n).banks := by
  refine fun b => (h b).trans ?_
  simp only [Allocator.clearNextHolder, Fin.getElem_fin, Vector.getElem_ofFn]
  split
  · exact BankRec.follows_next _ _ fun _ => rfl
  · exact .refl _

/-! ## The Allocator (chapter 4) -/

@[simp] theorem precoolRequest_follow {k : PrecoolClaim} (h : BanksFollow v c.alloc.banks) :
    (c.precoolRequest k).Follow v := by
  unfold precoolRequest
  split <;> simp [h, Event.unsampled]

@[simp] theorem precoolRelease_follow {n : Nozzle} (h : BanksFollow v c.alloc.banks) :
    (c.precoolRelease n).Follow v := by
  unfold precoolRelease
  split
  · simp [clearNextHolder_follow h, Event.unsampled]
  · simp [h]

@[simp] theorem placeParked_follow {n : Nozzle} {placed : Bool} (h : BanksFollow v c.alloc.banks) :
    (c.placeParked n placed).Follow v := by
  unfold placeParked
  split <;> simp [h, Event.unsampled]

@[simp] theorem releaseCompressor_follow (h : BanksFollow v c.alloc.banks) : c.releaseCompressor.Follow v := by
  unfold releaseCompressor
  split <;> simp [h, Event.unsampled]

@[simp] theorem bankRequest_follow {k : BankClaim} (h : BanksFollow v c.alloc.banks) : (c.bankRequest k).Follow v := by
  unfold bankRequest
  split <;> [skip; split <;> [skip; split]] <;> simp [h, Event.unsampled]

@[simp] theorem shedNozzle_follow {n : Nozzle} (h : BanksFollow v c.alloc.banks) :
    BanksFollow v (c.shedNozzle n).alloc.banks := clearNextHolder_follow h

@[simp] theorem shedNozzles_follow (l : List Nozzle) :
    ∀ {c : Controller}, BanksFollow v c.alloc.banks → (c.shedNozzles l).Follow v := by
  induction l with
  | nil => exact fun h => by simpa [shedNozzles] using h
  | cons n l ih =>
    intro c h
    unfold shedNozzles
    split
    · simpa using h
    · exact Eff.Follow.andThen (by simp [h, Event.unsampled]) fun d => ih

@[simp] theorem shed_follow (h : BanksFollow v c.alloc.banks) : c.shed.Follow v := by
  unfold shed
  dsimp only
  split
  · simpa using h
  · refine Eff.Follow.andThen ?_ fun d => shedNozzles_follow _
    split <;> simp [h, Event.unsampled]

@[simp] theorem recomputeCapacity_follow (h : BanksFollow v c.alloc.banks) : c.recomputeCapacity.Follow v := by
  simp [recomputeCapacity, h, Event.unsampled]

@[simp] theorem takeDerate_follow {d : Nat} (h : BanksFollow v c.alloc.banks) : (c.takeDerate d).Follow v := by
  simp [takeDerate, h]

/-- R53: a claim that is granted finds its bank IDLE. -/
@[simp] theorem judgeClaim_follow {b : BankId} (h : BanksFollow v c.alloc.banks) :
    BanksFollow v (c.judgeClaim b).1.alloc.banks := by
  unfold judgeClaim
  split
  · exact h
  · split
    · exact h
    · rename_i hi
      split
      · exact h
      · exact grantBank_follow h (Decidable.not_not.1 (not_or.1 hi).1)

/-- R56: a bank chosen by a scan is configured and IDLE, and qualifies. -/
theorem chooseBank_some {k : BankClaim} {b : BankId} (h : c.chooseBank k = some b) :
    c.configured b = true ∧ (c.bank b).state = .idle ∧ qualifies (c.bank b) k = true := by
  have key : ∀ (l : List BankId) (best : Option BankId),
      l.foldl (fun best b => match best with
        | some x => if betterBank c b x then some b else some x
        | none => some b) best = some b → b ∈ l ∨ best = some b := by
    intro l
    induction l with
    | nil => exact fun _ => .inr
    | cons d l ih =>
      intro best hb
      rcases ih _ hb with hm | hm
      · exact .inl (List.mem_cons_of_mem _ hm)
      · cases best with
        | none =>
          simp only [Option.some.injEq] at hm
          exact .inl (hm ▸ List.mem_cons_self)
        | some x =>
          dsimp only at hm
          split at hm
          · simp only [Option.some.injEq] at hm
            exact .inl (hm ▸ List.mem_cons_self)
          · exact .inr hm
  rcases key _ _ h with hm | hm
  · simpa [and_assoc] using (List.mem_filter.1 hm).2
  · cases hm

@[simp] theorem grantBankToNozzle_follow {b : BankId} {n : Nozzle} (h : BanksFollow v c.alloc.banks)
    (hb : (c.bank b).state = .idle) : (c.grantBankToNozzle b n).Follow v := by
  simp [grantBankToNozzle, grantBank_follow h hb, Event.unsampled]

@[simp] theorem scanEntries_follow (l : List BankClaim) :
    ∀ {c : Controller}, BanksFollow v c.alloc.banks → (c.scanEntries l).Follow v := by
  induction l with
  | nil => exact fun h => by simpa [scanEntries] using h
  | cons k l ih =>
    intro c h
    unfold scanEntries
    split
    · rename_i b hb
      exact Eff.Follow.andThen (grantBankToNozzle_follow h (chooseBank_some hb).2.1) fun _ => ih
    · exact ih h

@[simp] theorem grantScan_follow (h : BanksFollow v c.alloc.banks) : c.grantScan.Follow v := scanEntries_follow _ h

/-- R57: the bank preempted is being refilled. -/
@[simp] theorem judgePreemption_follow {n : Nozzle} (h : BanksFollow v c.alloc.banks) :
    (c.judgePreemption n).Follow v := by
  unfold judgePreemption
  dsimp only
  split
  · simpa using h
  · split
    · simpa using h
    · split
      · simpa using h
      · rename_i k _ _ _ b hb
        have hfound := List.find?_some hb
        simp only [Bool.and_eq_true, beq_iff_eq] at hfound
        obtain ⟨⟨⟨-, hrefilled⟩, -⟩, -⟩ := hfound
        refine ⟨?_, by simp [Event.unsampled]⟩
        split
        · rw [handValve_eq, updBank]
          refine BanksFollow.of_banks h fun d => ?_
          by_cases hd : d = b
          · subst hd
            simpa [setBank, setPort, bank] using BankRec.follows_preempted (c.bank d) (some k) _ _ hrefilled
          · have hne : b.val ≠ d.val := fun e => hd (Fin.ext e.symm)
            simpa [setBank, setPort, bank, hne] using BankRec.Follows.refl _
        · rw [updBank, updBank]
          refine BanksFollow.of_banks h fun d => ?_
          by_cases hd : d = b
          · subst hd
            simpa [setBank, setPort, bank] using BankRec.follows_preempted (c.bank d) (some k) _ _ hrefilled
          · have hne : b.val ≠ d.val := fun e => hd (Fin.ext e.symm)
            simpa [setBank, setPort, bank, hne] using BankRec.Follows.refl _

/-! ## The Scheduler (chapter 5) -/

@[simp] theorem actOnAnswer_follow {b : BankId} {answer : ClaimAnswer} (h : BanksFollow v c.alloc.banks) :
    (c.actOnAnswer b answer).Follow v := by
  cases answer <;> simp [actOnAnswer, h, Event.unsampled]

@[simp] theorem startAttempt_follow (h : BanksFollow v c.alloc.banks) : c.startAttempt.Follow v := by
  have judged : ∀ f b, BanksFollow v ((c.updSched f).judgeClaim b).1.alloc.banks :=
    fun f b => judgeClaim_follow (by simpa using h)
  unfold startAttempt
  dsimp only
  split <;> [skip; split <;> [skip; split]] <;> simp [h, judged, Event.unsampled]

@[simp] theorem endPass_follow {placed : Bool} (h : BanksFollow v c.alloc.banks) : (c.endPass placed).Follow v := by
  have judged : ∀ b, BanksFollow v (c.judgeClaim b).1.alloc.banks := fun b => judgeClaim_follow h
  unfold endPass
  dsimp only
  split <;> split <;> [split; skip; split; skip] <;> simp [h, judged, Event.unsampled]

@[simp] theorem grantPass_follow {placed : Bool} (h : BanksFollow v c.alloc.banks) : (c.grantPass placed).Follow v := by
  unfold grantPass grantHead
  split
  · rename_i e he
    split at he
    · split at he <;> simp only [Option.some.injEq, reduceCtorEq] at he
      subst he
      simp [h, Event.unsampled]
    · cases he
  · simp [h]

@[simp] theorem endRefill_follow {why : RefillEnd} (h : BanksFollow v c.alloc.banks) : (c.endRefill why).Follow v := by
  unfold endRefill
  refine Eff.follow_tell.2 ⟨Eff.Follow.change ?_ fun d hd => by simpa using hd, ?_⟩
  · split
    · simpa using h
    · refine releaseCompressor_follow ?_
      split <;> [split; skip] <;> simp [h]
  · split <;> simp [Event.unsampled]

@[simp] theorem leaveQueue_follow {b : BankId} (h : BanksFollow v c.alloc.banks) : (c.leaveQueue b).Follow v := by
  unfold leaveQueue
  dsimp only
  split <;> simp [h, Event.unsampled]

@[simp] theorem judgeQueue_follow {b : BankId} (h : BanksFollow v c.alloc.banks) : (c.judgeQueue b).Follow v := by
  unfold judgeQueue
  dsimp only
  split
  · simpa using h
  · split
    · refine Eff.Follow.andThen (leaveQueue_follow h) fun d hd => ?_
      split <;> simp [hd]
    · split <;> split <;> simp [h, Event.unsampled]

@[simp] theorem toldIsolated_follow {b : BankId} (h : BanksFollow v c.alloc.banks) : (c.toldIsolated b).Follow v := by
  unfold toldIsolated
  refine Eff.Follow.andThen (leaveQueue_follow h) fun d hd => ?_
  split
  · split <;> [skip; split] <;> simp [hd, Event.unsampled]
  · simpa using hd

@[simp] theorem compressorReleased_follow {b : BankId} (h : BanksFollow v c.alloc.banks) :
    (c.compressorReleased b).Follow v := by
  unfold compressorReleased
  split <;> [split; skip] <;> simp [h, Event.unsampled]

@[simp] theorem allocatorEndsRefill_follow {why : RefillEnd} (h : BanksFollow v c.alloc.banks) :
    (c.allocatorEndsRefill why).Follow v := by
  unfold allocatorEndsRefill
  split <;> simp [h]

@[simp] theorem compressorValveFailed_follow {b : BankId} (h : BanksFollow v c.alloc.banks) :
    (c.compressorValveFailed b).Follow v :=
  (allocatorEndsRefill_follow h).change fun d hd => by simpa using hd

@[simp] theorem runConfirmed_follow {o : RunOrder} (h : BanksFollow v c.alloc.banks) : (c.runConfirmed o).Follow v := by
  unfold runConfirmed
  dsimp only
  split
  · split <;> [skip; split] <;> simp [h]
  · split <;> simp [h, Event.unsampled]

@[simp] theorem takeRunConfirm_follow {tag state : Octet} (h : BanksFollow v c.alloc.banks) :
    (c.takeRunConfirm tag state).Follow v := by
  unfold takeRunConfirm
  split <;> [split; skip] <;> simp [h]

@[simp] theorem takeStartTimeout_follow (h : BanksFollow v c.alloc.banks) : c.takeStartTimeout.Follow v := by
  unfold takeStartTimeout startTimedOut
  split
  · split
    · refine Eff.Follow.change ?_ fun d hd => by simpa using hd
      split
      · exact endRefill_follow (by simpa using h)
      · exact Eff.follow_of.2 h
    · simpa using h
  · simpa using h

@[simp] theorem judgeStarvation_follow {inlet : Nat} (h : BanksFollow v c.alloc.banks) :
    (c.judgeStarvation inlet).Follow v := by
  unfold judgeStarvation
  split <;> split <;> simp [h, Event.unsampled]

@[simp] theorem takeCompressorSample_follow {inlet discharge : Nat} (h : BanksFollow v c.alloc.banks) :
    (c.takeCompressorSample inlet discharge).Follow v := by
  refine Eff.Follow.change (judgeStarvation_follow (by simpa using h)) fun d hd => ?_
  split <;> simpa using hd

@[simp] theorem takeStall_follow (h : BanksFollow v c.alloc.banks) : c.takeStall.Follow v := by
  unfold takeStall stall
  split
  · refine Eff.Follow.change (endRefill_follow (by simpa using h)) fun d hd => ?_
    split <;> simpa using hd
  · simpa using h

@[simp] theorem backoffExpired_follow (h : BanksFollow v c.alloc.banks) : c.backoffExpired.Follow v := by
  unfold backoffExpired
  dsimp only
  split <;> simp [h, Event.unsampled]

@[simp] theorem takeBanks_follow {moved : List BankId} (h : BanksFollow v c.alloc.banks) :
    (c.takeBanks moved).Follow v := by
  unfold takeBanks
  dsimp only
  split
  · simp [h, Event.unsampled]
  · refine ⟨by simpa using h, fun x hx => ?_⟩
    dsimp only at hx
    split at hx <;> simp_all [Event.unsampled]

end Follow

end Controller

end Sys2Proof.Machine
end

section
/-! What the operations of the Sequencer, and the events of a step, make of the bank records. -/

namespace Sys2Proof.Machine
namespace Controller

section Follow

variable {v : Vector BankRec 12} {c : Controller}

/-! ## The Sequencer (chapters 7 and 8) -/

@[simp] theorem closeWithoutFlow_follow {n : Nozzle} {why : EndReason} (h : BanksFollow v c.alloc.banks) :
    (c.closeWithoutFlow n why).Follow v := by
  refine Eff.Follow.change (precoolRelease_follow (by simpa using h)) fun d hd => ?_
  exact (congrArg (fun a : Allocator => BanksFollow v a.banks) (closeFill_alloc d n)).mpr hd

@[simp] theorem beginEnding_follow {n : Nozzle} {why : EndReason} (h : BanksFollow v c.alloc.banks) :
    (c.beginEnding n why).Follow v := by
  unfold beginEnding
  refine Eff.Follow.change (precoolRelease_follow (by simpa using h)) fun d hd => ?_
  simp only [ventIfShut_alloc, driveFlow_alloc]
  split <;> simp [hd]

@[simp] theorem endIfFlowing_follow {n : Nozzle} {why : EndReason} (h : BanksFollow v c.alloc.banks) :
    (c.endIfFlowing n why).Follow v := by
  unfold endIfFlowing
  split <;> simp [h]

@[simp] theorem switchOn_follow {n : Nozzle} (h : BanksFollow v c.alloc.banks) : (c.switchOn n).Follow v := by
  unfold switchOn
  split <;> simp [h, Event.unsampled]

/-- R93: renumbering gives a next holder's claim another join number. -/
@[simp] theorem renumber_follow (h : BanksFollow v c.alloc.banks) : BanksFollow v c.renumber.alloc.banks := by
  refine BanksFollow.of_banks h fun b => ?_
  simp only [renumber, bank, Fin.getElem_fin, Vector.getElem_ofFn]
  exact BankRec.follows_next _ _ fun hn => by rw [hn]; rfl

@[simp] theorem enterWait_follow {n : Nozzle} (h : BanksFollow v c.alloc.banks) : (c.enterWait n).Follow v := by
  refine precoolRequest_follow ?_
  rw [updCtx_alloc]
  unfold takeJoin
  dsimp only
  split
  · exact renumber_follow h
  · exact h

@[simp] theorem precoolGranted_follow {n : Nozzle} (h : BanksFollow v c.alloc.banks) :
    (c.precoolGranted n).Follow v := by
  unfold precoolGranted
  split <;> [split; skip; skip; skip; skip; skip; skip; skip; skip] <;> simp [h, Event.unsampled]

@[simp] theorem nozzleShed_follow {n : Nozzle} (h : BanksFollow v c.alloc.banks) : (c.nozzleShed n).Follow v := by
  unfold nozzleShed
  split <;> simp [h]

@[simp] theorem bankGranted_follow {n : Nozzle} {ref : BankRef} {pressure : Option Nat}
    (h : BanksFollow v c.alloc.banks) : (c.bankGranted n ref pressure).Follow v := by
  unfold bankGranted
  dsimp only
  split <;> [skip; split] <;> simp [h]

@[simp] theorem valveFailed_follow {n : Nozzle} {b : BankId} (h : BanksFollow v c.alloc.banks) :
    (c.valveFailed n b).Follow v := by
  unfold valveFailed
  dsimp only
  split <;> simp [h]

@[simp] theorem bankReleased_follow {n : Nozzle} {b : BankId} {pressure : Option Nat}
    (h : BanksFollow v c.alloc.banks) : (c.bankReleased n b pressure).Follow v := by
  unfold bankReleased
  dsimp only
  split
  · split <;> [skip; split; skip] <;> simp [h]
  · simp [clearOutstanding, h]

@[simp] theorem bankLost_follow {n : Nozzle} {b : BankId} {pressure : Option Nat} (h : BanksFollow v c.alloc.banks) :
    (c.bankLost n b pressure).Follow v := by
  unfold bankLost
  split
  · split <;> simp [h]
  · simp [clearOutstanding, h]

@[simp] theorem storageLow_follow {n : Nozzle} (h : BanksFollow v c.alloc.banks) : (c.storageLow n).Follow v := by
  unfold storageLow
  split <;> simp [h]

@[simp] theorem authorise_follow {n : Nozzle} {a : Authorisation} (h : BanksFollow v c.alloc.banks) :
    (c.authorise n a).Follow v := by
  unfold authorise
  dsimp only
  split
  · exact enterWait_follow h
  · exact Eff.follow_of.2 h

@[simp] theorem nozzleConnect_follow {n : Nozzle} {k : VehicleClass} {data : Bool} (h : BanksFollow v c.alloc.banks) :
    (c.nozzleConnect n k data).Follow v := by
  unfold nozzleConnect
  split
  case h_2 =>
    dsimp only
    split
    · exact enterWait_follow h
    · exact closeWithoutFlow_follow h
  all_goals exact Eff.follow_of.2 h

@[simp] theorem takeConnect_follow {n : Nozzle} {k data : Octet} (h : BanksFollow v c.alloc.banks) :
    (c.takeConnect n k data).Follow v := by
  unfold takeConnect
  split <;> simp [h]

@[simp] theorem connectWaitExpired_follow {n : Nozzle} (h : BanksFollow v c.alloc.banks) :
    (c.connectWaitExpired n).Follow v := by
  unfold connectWaitExpired
  split <;> simp [h]

@[simp] theorem resourceWaitExpired_follow {n : Nozzle} (h : BanksFollow v c.alloc.banks) :
    (c.resourceWaitExpired n).Follow v := by
  unfold resourceWaitExpired
  split <;> simp [h]

@[simp] theorem cancel_follow {n : Nozzle} (h : BanksFollow v c.alloc.banks) : (c.cancel n).Follow v := by
  unfold cancel
  split <;> simp [h]

@[simp] theorem nozzleHang_follow {n : Nozzle} (h : BanksFollow v c.alloc.banks) : (c.nozzleHang n).Follow v := by
  unfold nozzleHang
  dsimp only
  split
  case h_3 => exact closeWithoutFlow_follow h
  case h_4 | h_5 | h_6 => exact beginEnding_follow h
  all_goals exact Eff.follow_of.2 h

@[simp] theorem stopPress_follow {n : Nozzle} (h : BanksFollow v c.alloc.banks) : (c.stopPress n).Follow v := by
  unfold stopPress
  split <;> simp [h]

@[simp] theorem flowTimedOut_follow {n : Nozzle} (h : BanksFollow v c.alloc.banks) : (c.flowTimedOut n).Follow v := by
  unfold flowTimedOut
  dsimp only
  split
  · simp [h]
  · exact endIfFlowing_follow h

@[simp] theorem judgeDisturbance_follow {n : Nozzle} (h : BanksFollow v c.alloc.banks) :
    (c.judgeDisturbance n).Follow v := by
  unfold judgeDisturbance
  dsimp only
  split <;> [split; skip] <;> simp [h]

@[simp] theorem settleWindowEnded_follow {n : Nozzle} (h : BanksFollow v c.alloc.banks) :
    (c.settleWindowEnded n).Follow v := by
  unfold settleWindowEnded
  dsimp only
  split <;> [skip; split <;> [skip; split]] <;> simp [h]

@[simp] theorem judgeSample_follow {n : Nozzle} (h : BanksFollow v c.alloc.banks) : (c.judgeSample n).Follow v := by
  unfold judgeSample
  dsimp only
  split <;> [split; split; split; skip; skip; skip; skip; skip; skip] <;> simp [h]

@[simp] theorem takeStopReport_follow {n : Nozzle} (h : BanksFollow v c.alloc.banks) :
    (c.takeStopReport n).Follow v := by
  unfold takeStopReport
  split
  · exact endIfFlowing_follow h
  · exact Eff.follow_of.2 h

@[simp] theorem takeFaultReport_follow {n : Nozzle} (h : BanksFollow v c.alloc.banks) :
    (c.takeFaultReport n).Follow v := by
  unfold takeFaultReport
  split
  · exact endIfFlowing_follow h
  · exact Eff.follow_of.2 h

@[simp] theorem fieldSample_follow {n : Nozzle} {pressure : Nat} {gas : Int} {tank : Option Int} {flags : VehicleFlags}
    {count : BitVec 16} (h : BanksFollow v c.alloc.banks) :
    (c.fieldSample n pressure gas tank flags count).Follow v := by
  unfold fieldSample
  dsimp only
  split
  · split
    · refine Eff.Follow.andThen (Eff.Follow.andThen (takeStopReport_follow (by simpa using h)) fun d hd => ?_)
        fun d hd => judgeSample_follow hd
      exact takeFaultReport_follow hd
    · exact judgeSample_follow (by simpa using h)
  · exact judgeSample_follow (by simpa using h)

@[simp] theorem rampStep_follow {n : Nozzle} (h : BanksFollow v c.alloc.banks) :
    BanksFollow v (c.rampStep n).alloc.banks := by
  unfold rampStep beginSwitch
  dsimp only
  split
  · split <;> [split; skip] <;> simp [h]
  · exact h

@[simp] theorem holdPeriodExpired_follow {n : Nozzle} (h : BanksFollow v c.alloc.banks) :
    (c.holdPeriodExpired n).Follow v := by
  unfold holdPeriodExpired
  dsimp only
  split <;> [split; skip]
  · exact beginEnding_follow h
  all_goals exact Eff.follow_of.2 h

@[simp] theorem cutBank_follow {n : Nozzle} (h : BanksFollow v c.alloc.banks) :
    BanksFollow v (c.cutBank n).alloc.banks := by
  unfold cutBank
  split <;> simp [h]

@[simp] theorem dispenserLost_follow {n : Nozzle} (h : BanksFollow v c.alloc.banks) : (c.dispenserLost n).Follow v := by
  have cut : ∀ d : Controller, BanksFollow v d.alloc.banks →
      BanksFollow v (((d.cutBank n).closeFill n).updCtx n Context.toIdle).alloc.banks := fun d hd => by
    rw [updCtx_alloc, closeFill_alloc]
    exact cutBank_follow hd
  unfold dispenserLost
  dsimp only
  split
  case h_1 | h_2 | h_3 => exact Eff.follow_of.2 h
  case h_4 | h_5 => exact closeWithoutFlow_follow h
  all_goals
    refine Eff.Follow.change (precoolRelease_follow ?_) cut
    split <;> simpa using h

@[simp] theorem plantLostFor_follow {n : Nozzle} (h : BanksFollow v c.alloc.banks) : (c.plantLostFor n).Follow v := by
  have forgot : BanksFollow v ((c.updCtx n Context.losePlant).forgetBank n).alloc.banks := by simpa using h
  unfold plantLostFor
  dsimp only
  split
  case h_1 | h_2 => exact closeWithoutFlow_follow h
  case h_3 | h_4 | h_5 => exact beginEnding_follow forgot
  case h_6 => simp [h]
  all_goals exact Eff.follow_of.2 h

@[simp] theorem plantLostForAll_follow (l : List Nozzle) :
    ∀ {c : Controller}, BanksFollow v c.alloc.banks → (c.plantLostForAll l).Follow v := by
  induction l with
  | nil => exact fun h => by simpa [plantLostForAll] using h
  | cons n l ih => exact fun h => Eff.Follow.andThen (plantLostFor_follow h) fun _ => ih

@[simp] theorem sequencerPlantLoss_follow (h : BanksFollow v c.alloc.banks) : c.sequencerPlantLoss.Follow v :=
  Eff.Follow.change (plantLostForAll_follow _ h) fun _ => id

/-! ## The links (chapter 1), and every event of a step -/

/-- The loss of a port other than the plant's. -/
theorem portDown_follow {p : PortId} (hp : p ≠ plantPort) (h : BanksFollow v c.alloc.banks) :
    (c.portDown p).Follow v := by
  unfold portDown handLoss
  rw [if_neg hp]
  split
  · exact dispenserLost_follow h
  · exact Eff.follow_of.2 h

@[simp] theorem takeServiceFlag_follow {n : Nozzle} (h : BanksFollow v c.alloc.banks) :
    (c.takeServiceFlag n).Follow v := by
  unfold takeServiceFlag
  dsimp only
  split
  · simp [h]
  · exact portDown_follow (portOfNozzle_ne_plant n) (by simpa using h)
  · simp [h]

@[simp] theorem takeHandOver_follow {k : SettingKey} (h : BanksFollow v c.alloc.banks) : (c.takeHandOver k).Follow v := by
  unfold takeHandOver
  split <;> simp [h]

@[simp] theorem goUp_follow {p : PortId} (h : BanksFollow v c.alloc.banks) : (c.goUp p).Follow v := by
  unfold goUp
  split
  · simpa using h
  · refine ⟨by simpa using h, fun x hx => ?_⟩
    dsimp only at hx
    split at hx <;> simp_all [Event.unsampled]

/-- No event but a sample changes a bank's measured values, frees it or isolates it. -/
theorem handle_follow {e : Event} (he : e.unsampled = true) (h : BanksFollow v c.alloc.banks) :
    (c.handle e).Follow v := by
  cases e with
  | bankSampleEntry b pressure temperature => cases he
  | _ => simp [handle, h]

end Follow

/-- The events that follow from one another, none of them a sample. -/
def TracksBanks (v : Vector BankRec 12) (c : Controller) : Prop :=
  BanksFollow v c.alloc.banks ∧ ∀ e ∈ c.owed, e.unsampled = true

theorem tracksBanks_owe {v : Vector BankRec 12} {e : Eff} (h : e.Follow v)
    (howed : ∀ x ∈ e.ctl.owed, x.unsampled = true) : e.owe.TracksBanks v := by
  refine ⟨h.1, fun x hx => ?_⟩
  rcases List.mem_append.1 hx with hm | hm
  · exact h.2 x hm
  · exact howed x hm

end Controller
end Sys2Proof.Machine
end

section
/-! R34 through the operations that free and isolate banks, and through the starts. -/

namespace Sys2Proof.Machine

namespace Controller

/-- Records that follow those of a table whose states and holders go together do so too. -/
theorem holdersAgree_of_follow {c d : Controller} (h : BanksFollow c.alloc.banks d.alloc.banks)
    (hc : c.holdersAgree) : d.holdersAgree := fun b => (h b).agrees (hc b)

theorem holdersAgree_congr {c d : Controller} (h : d.alloc.banks = c.alloc.banks) :
    d.holdersAgree ↔ c.holdersAgree := by
  simp only [holdersAgree, bank, h]

theorem holdersAgree_updBank {c : Controller} {b : BankId} {f : BankRec → BankRec} (h : c.holdersAgree)
    (hf : (f (c.bank b)).agrees = true) : (c.updBank b f).holdersAgree := fun d => by
  by_cases hd : d = b
  · subst hd
    rwa [bank_updBank_self]
  · rw [bank_updBank_ne c f hd]
    exact h d

/-- An order handed for a bank's valve is no matter of its holder. -/
theorem handValve_holdersAgree {c : Controller} {b : BankId} {route : Holder} {action : Valve}
    (h : c.holdersAgree) : (c.handValve b route action).holdersAgree := by
  rw [handValve_eq]
  exact holdersAgree_updBank (f := fun _ => _) (fun d => h d) (h b)

variable {c : Controller}

/-- R33: a sample is stored. -/
theorem takeBankSample_holdersAgree {b : BankId} {pressure : Nat} {temperature : Int} (h : c.holdersAgree) :
    (c.takeBankSample b pressure temperature).ctl.holdersAgree := holdersAgree_updBank h (h b)

theorem openConfirmed_holdersAgree {b : BankId} {route : Holder} (h : c.holdersAgree) :
    (c.openConfirmed b route).ctl.holdersAgree := by
  unfold openConfirmed
  split
  · exact handValve_holdersAgree (holdersAgree_updBank h (h b))
  · exact holdersAgree_updBank h (h b)

theorem openTimedOut_holdersAgree {b : BankId} {route : Holder} (h : c.holdersAgree) :
    (c.openTimedOut b route).ctl.holdersAgree := handValve_holdersAgree (holdersAgree_updBank h (h b))

/-- R42: a bank released is IDLE without a holder, or granted to its next holder. -/
theorem closeConfirmed_holdersAgree {b : BankId} (h : c.holdersAgree) : (c.closeConfirmed b).ctl.holdersAgree := by
  have freed := holdersAgree_updBank (b := b) h (f := fun r => { r with
    holder := none, generation := r.generation + 1, order := none, nextHolder := none, state := .idle }) rfl
  unfold closeConfirmed
  dsimp only
  split
  · exact holdersAgree_of_follow (grantBank_follow (.refl _) (by rw [bank_updBank_self])) freed
  · split <;> exact freed

theorem closeTimedOut_holdersAgree {b : BankId} {route : Holder} (h : c.holdersAgree) :
    (c.closeTimedOut b route).ctl.holdersAgree :=
  (holdersAgree_congr (by rw [closeTimedOut, notice_alloc])).2 (holdersAgree_updBank h (c.bank b).isolate_agrees)

theorem isolateBank_holdersAgree {b : BankId} (h : c.holdersAgree) : (c.isolateBank b).ctl.holdersAgree := by
  unfold isolateBank
  dsimp only
  split
  · exact h
  · exact holdersAgree_updBank h (c.bank b).isolate_agrees

/-- R45: an ISOLATED bank has no holder, and becomes IDLE. -/
theorem restoreBank_holdersAgree {b : BankId} (h : c.holdersAgree) (hb : (c.bank b).state = .isolated) :
    (c.restoreBank b).ctl.holdersAgree := by
  refine holdersAgree_updBank h ?_
  have hb' := h b
  unfold BankRec.agrees at hb' ⊢
  rw [hb] at hb'
  cases hh : (c.bank b).holder with
  | none => rfl
  | some k => simp [hh] at hb'

theorem takeValveConfirm_holdersAgree {tag bank generation state : Octet} (h : c.holdersAgree) :
    (c.takeValveConfirm tag bank generation state).ctl.holdersAgree := by
  unfold takeValveConfirm
  split
  · exact h
  · split
    · exact h
    · split
      · split
        · exact openConfirmed_holdersAgree h
        · exact closeConfirmed_holdersAgree h
      · exact h

theorem valveTimedOut_holdersAgree {b : BankId} {action : Valve} (h : c.holdersAgree) :
    (c.valveTimedOut b action).ctl.holdersAgree := by
  unfold valveTimedOut
  split
  · split
    · cases action
      · exact openTimedOut_holdersAgree h
      · exact closeTimedOut_holdersAgree h
    · exact h
  · exact h

/-- R46: at the loss of the plant port no configured bank has a holder. -/
theorem dropAtPlantLoss_agrees (r : BankRec) : r.dropAtPlantLoss.agrees = true := by
  unfold BankRec.dropAtPlantLoss BankRec.agrees
  by_cases hs : r.state = .isolated <;> simp [hs]

theorem handLoss_holdersAgree {p : PortId} (h : c.holdersAgree) : (c.handLoss p).ctl.holdersAgree := by
  unfold handLoss
  split
  · rw [schedulerPlantLoss_eq, Eff.of_andThen]
    refine holdersAgree_of_follow (sequencerPlantLoss_follow (.refl _)).1 fun b => ?_
    simp only [bank, Allocator.dropAtPlantLoss, Fin.getElem_fin, Vector.getElem_ofFn]
    split
    · exact dropAtPlantLoss_agrees _
    · exact h b
  · split
    · exact holdersAgree_of_follow (dispenserLost_follow (.refl _)).1 h
    · exact h

/-- R31: a bank at rest is IDLE without a holder, and one of the table as at the loss of the plant port. -/
theorem warmRestart_holdersAgree : c.warmRestart.holdersAgree := fun b => by
  simp only [bank, warmRestart, restartAllocator, Fin.getElem_fin, Vector.getElem_ofFn, restartBank]
  split
  · exact dropAtPlantLoss_agrees (c.bank b)
  · rfl

theorem coldStart_holdersAgree : c.coldStart.holdersAgree := fun b => by
  simp only [bank, coldStart, coldController, coldAllocator, Fin.getElem_fin, Vector.getElem_ofFn]
  rfl

theorem takeStart_holdersAgree {k : StartKind} : (c.takeStart k).holdersAgree := by
  cases k
  · exact warmRestart_holdersAgree
  · exact coldStart_holdersAgree

theorem transmissionEnded_holdersAgree {p : PortId} (h : c.holdersAgree) : (c.transmissionEnded p).holdersAgree := by
  unfold transmissionEnded
  dsimp only
  split
  · exact h
  · split
    · exact takeStart_holdersAgree
    · exact h
  · exact h

theorem linkTimedOut_holdersAgree {p : PortId} (h : c.holdersAgree) : (c.linkTimedOut p).ctl.holdersAgree := by
  unfold linkTimedOut
  split
  · split
    · exact takeStart_holdersAgree
    · exact handLoss_holdersAgree h
  · exact h

/-- Timers are no part of state and holder. -/
theorem mapTimers_holdersAgree {f : Nat → Option Nat} (h : c.holdersAgree) : (c.mapTimers f).holdersAgree := fun b => by
  simp only [bank, mapTimers, Fin.getElem_fin, Vector.getElem_ofFn]
  exact h b

/-- R32: the records a write adds or removes are at rest. -/
theorem recordWrite_holdersAgree {k : SettingKey} (h : c.holdersAgree) : (c.recordWrite k).holdersAgree := by
  cases k with
  | bankTier b => exact holdersAgree_updBank h (h b)
  | bankCount =>
    intro b
    simp only [recordWrite, bank, Fin.getElem_fin, Vector.getElem_ofFn]
    split
    · exact h b
    · rfl
  | _ => exact h

theorem recordWrites_holdersAgree (l : List SettingKey) :
    ∀ {c : Controller}, c.holdersAgree → (l.foldl recordWrite c).holdersAgree := by
  induction l with
  | nil => exact id
  | cons k l ih => exact fun h => ih (recordWrite_holdersAgree h)

theorem refuse_alloc {t : Telegram} {why : Result} : (c.refuse t why).eff.ctl.alloc = c.alloc := by
  unfold refuse
  split <;> [(dsimp only; split); skip; skip] <;> rfl

/-! ## Whole commands -/

/-- Whatever an event tells a block, state and holder go together. -/
theorem handle_holdersAgree {e : Event} (h : c.holdersAgree) : (c.handle e).ctl.holdersAgree := by
  cases he : e.unsampled with
  | true => exact holdersAgree_of_follow (handle_follow he (.refl _)).1 h
  | false =>
    cases e <;> simp only [Event.unsampled, reduceCtorEq] at he
    exact takeBankSample_holdersAgree h

theorem settle_holdersAgree (h : c.holdersAgree) : c.settle.holdersAgree :=
  runOwed_induct holdersAgree (fun d e l hd _ => handle_holdersAgree (c := { d with owed := l }) (e := e) hd) _ c h

theorem took_holdersAgree {e : Event} (h : c.holdersAgree) : (c.took e).holdersAgree := by
  unfold took
  exact settle_holdersAgree h

theorem serveRequest_holdersAgree {p : PortId} {t : Telegram} {carry : Controller → Carried} (h : c.holdersAgree)
    (hcarry : ∀ d, d.holdersAgree → (carry d).eff.ctl.holdersAgree) :
    (c.serveRequest p t carry).ctl.holdersAgree := by
  have head : (c.toHead p t).holdersAgree := by
    unfold toHead
    split <;> exact h
  unfold serveRequest
  dsimp only
  split
  · split
    · unfold answerHead
      simp only [Eff.change_ctl]
      refine (holdersAgree_congr rfl).2 ?_
      split
      · exact hcarry _ head
      · exact (holdersAgree_congr (congrArg Allocator.banks refuse_alloc)).2 head
    · exact head
  · exact h

theorem serveReport_holdersAgree {p : PortId} {t : Telegram} {act : Controller → Eff} (h : c.holdersAgree)
    (hact : ∀ d, d.holdersAgree → (act d).ctl.holdersAgree) : (c.serveReport p t act).ctl.holdersAgree := by
  have head : (c.toHead p t).holdersAgree := by
    unfold toHead
    split <;> exact h
  unfold serveReport takeHeadReport
  dsimp only
  split
  · split
    · split
      · exact hact _ head
      · exact head
    · exact head
  · exact h

theorem forNozzle_holdersAgree {p : PortId} {f : Nozzle → Eff} (h : c.holdersAgree)
    (hf : ∀ n, (f n).Follow c.alloc.banks) : (c.forNozzle p f).ctl.holdersAgree := by
  unfold forNozzle
  split
  · exact holdersAgree_of_follow (hf _).1 h
  · exact h

theorem ifRuns_holdersAgree {t : Timer} {e : Eff} (h : c.holdersAgree) (he : e.Follow c.alloc.banks) :
    (c.ifRuns t e).ctl.holdersAgree := by
  unfold ifRuns
  split
  · exact holdersAgree_of_follow he.1 h
  · exact h

end Controller
end Sys2Proof.Machine
end

section
/-! R34 through every command. -/

namespace Sys2Proof.Machine

open Controller

/-- What a command keeps: state and holder of every bank go together. -/
def State.KeepsHolders (s : State) (o : Host.Outcome State Fault Refusal) : Prop :=
  ∀ t, o = .next t → s.ctl.holdersAgree → t.ctl.holdersAgree

theorem State.keepsHolders_withCtl {s : State} {c : Controller} (h : s.ctl.holdersAgree → c.holdersAgree) :
    s.KeepsHolders (.next (s.withCtl c)) := by
  rintro t e
  cases e
  exact h

theorem State.does_keepsHolders (s : State) {f : Controller → Eff}
    (hf : ∀ c, c.holdersAgree → (f c).ctl.holdersAgree) : s.KeepsHolders (s.does f) :=
  State.keepsHolders_withCtl fun h => perform_induct holdersAgree f
    (fun d e l hd _ => handle_holdersAgree (c := { d with owed := l }) (e := e) hd) (fun c => hf c)
    (fun _ => id) _ h

/-- An operation that leaves every record as it was, or follows it. -/
theorem State.does_keepsHolders_of_follow (s : State) {f : Controller → Eff}
    (hf : ∀ c, (f c).Follow c.alloc.banks) : s.KeepsHolders (s.does f) :=
  s.does_keepsHolders fun c => holdersAgree_of_follow (hf c).1

theorem State.request_keepsHolders (s : State) (i : Instr) {carry : Controller → Telegram → Carried}
    (hcarry : ∀ d t, d.holdersAgree → (carry d t).eff.ctl.holdersAgree) : s.KeepsHolders (s.request i carry) := by
  unfold State.request
  split
  · exact s.does_keepsHolders fun c hc => serveRequest_holdersAgree hc fun d => hcarry d _
  · exact State.keepsHolders_withCtl (c := s.ctl) id

/-- A request that follows every bank record. -/
theorem State.request_keepsHolders_of_follow (s : State) (i : Instr) {carry : Controller → Telegram → Carried}
    (hcarry : ∀ d t, BanksFollow d.alloc.banks (carry d t).eff.ctl.alloc.banks) : s.KeepsHolders (s.request i carry) :=
  s.request_keepsHolders i fun d t => holdersAgree_of_follow (hcarry d t)

/-- A request that touches no bank record, refused or carried out. -/
theorem State.request_keepsHolders_of_alloc (s : State) (i : Instr) {carry : Controller → Telegram → Carried}
    (hcarry : ∀ d t, (carry d t).eff.ctl.alloc = d.alloc) : s.KeepsHolders (s.request i carry) :=
  s.request_keepsHolders i fun d t => (holdersAgree_congr (congrArg Allocator.banks (hcarry d t))).2

theorem State.report_keepsHolders (s : State) (i : Instr) {act : Controller → PortId → Eff}
    (hact : ∀ d p, d.holdersAgree → (act d p).ctl.holdersAgree) : s.KeepsHolders (s.report i act) := by
  unfold State.report
  split
  · exact s.does_keepsHolders fun c hc => serveReport_holdersAgree hc fun d => hact d _
  · exact State.keepsHolders_withCtl (c := s.ctl) id

theorem State.requestLater_keepsHolders (s : State) (i : Instr) {carry : Controller → Telegram → Carried}
    (hcarry : ∀ d t, d.holdersAgree → (carry d t).eff.ctl.holdersAgree) : s.KeepsHolders (s.requestLater i carry) := by
  unfold State.requestLater
  split
  · unfold performLater
    split
    · exact State.keepsHolders_withCtl fun h =>
        serveRequest_holdersAgree (settle_holdersAgree h) fun d => hcarry d _
    · exact State.keepsHolders_withCtl (c := s.ctl) id
  · exact State.keepsHolders_withCtl (c := s.ctl) id

theorem Controller.takeOwed_holdersAgree {c : Controller} (h : c.holdersAgree) : c.takeOwed.holdersAgree := by
  unfold takeOwed
  split
  · split
    · exact h
    · rename_i e l _
      have handled := handle_holdersAgree (c := { c with owed := [] }) (e := e) h
      have settled : (({ c with owed := [] }).handle e).owe.settle.holdersAgree := settle_holdersAgree handled
      exact fun b => settled b
  · exact h

theorem Controller.powerUp_holdersAgree {c : Controller} (h : c.holdersAgree) : c.powerUp.holdersAgree := by
  unfold powerUp
  dsimp only
  split <;> [skip; split]
  · exact h
  · exact warmRestart_holdersAgree
  · exact coldStart_holdersAgree

theorem Controller.resetAssert_holdersAgree {c : Controller} (h : c.holdersAgree) : c.resetAssert.holdersAgree := by
  unfold resetAssert
  dsimp only
  split
  · exact h
  · have halted : ({ c with resetAsserted := true, pendingStart := none }.haltTimers).holdersAgree :=
      mapTimers_holdersAgree (c := { c with resetAsserted := true, pendingStart := none }) h
    exact halted

theorem Controller.resetRelease_holdersAgree {c : Controller} (h : c.holdersAgree) : c.resetRelease.holdersAgree := by
  unfold resetRelease
  dsimp only
  split <;> [split; skip]
  · exact warmRestart_holdersAgree
  · exact h
  · exact h

theorem Controller.passTime_holdersAgree {c : Controller} (h : c.holdersAgree) : c.passTime.holdersAgree := by
  unfold passTime
  split
  · exact mapTimers_holdersAgree h
  · exact h

theorem Controller.clockSecond_alloc (c : Controller) : c.clockSecond.alloc = c.alloc := by
  unfold clockSecond
  split
  · rw [compareTariff_alloc]
  · rfl

theorem Controller.coreLost_alloc (c : Controller) (disturbed : Bool) : (c.coreLost disturbed).alloc = c.alloc := by
  unfold coreLost
  split <;> rfl

namespace Controller

section Carried

variable {c : Controller} {t : Telegram}

theorem carryHello_follow {p : PortId} {role nozzle : Octet} :
    BanksFollow c.alloc.banks (c.carryHello p role nozzle).eff.ctl.alloc.banks := by
  unfold carryHello
  split
  · exact (goUp_follow (.refl _)).1
  · exact .refl _

theorem carryIsolate_holdersAgree {bank : Octet} (h : c.holdersAgree) :
    (c.carryIsolate t bank).eff.ctl.holdersAgree := by
  unfold carryIsolate
  split
  · exact isolateBank_holdersAgree h
  · exact (holdersAgree_congr (congrArg Allocator.banks refuse_alloc)).2 h

theorem carryRestore_holdersAgree {bank : Octet} (h : c.holdersAgree) :
    (c.carryRestore t bank).eff.ctl.holdersAgree := by
  have refused : ∀ why, (c.refuse t why).eff.ctl.holdersAgree := fun why =>
    (holdersAgree_congr (congrArg Allocator.banks refuse_alloc)).2 h
  unfold carryRestore
  split
  · split
    · rename_i hs
      exact restoreBank_holdersAgree h hs
    · exact refused _
  · exact refused _

theorem carryPause_alloc {seconds : Nat} : (c.carryPause seconds).eff.ctl.alloc = c.alloc := by
  simp [carryPause, Eff.ok]

theorem carryClear_holdersAgree (h : c.holdersAgree) : (c.carryClear t).eff.ctl.holdersAgree := by
  unfold carryClear
  split
  · exact took_holdersAgree h
  · exact (holdersAgree_congr (congrArg Allocator.banks refuse_alloc)).2 h

theorem carryWrite_holdersAgree {code : Octet} {entries : List SettingEntry} (h : c.holdersAgree) :
    (c.carryWrite t code entries).eff.ctl.holdersAgree := by
  unfold carryWrite
  split
  · exact recordWrites_holdersAgree _ h
  · exact (holdersAgree_congr (congrArg Allocator.banks refuse_alloc)).2 h

theorem carryLock_alloc {code : Octet} {v : Bool} : (c.carryLock t code v).eff.ctl.alloc = c.alloc := by
  unfold carryLock
  split
  · rfl
  · exact refuse_alloc

theorem carryClock_alloc {value : BitVec 32} : (c.carryClock value).eff.ctl.alloc = c.alloc := by
  simp [carryClock, Eff.ok]

theorem carryColdStart_alloc : (c.carryColdStart t).eff.ctl.alloc = c.alloc := by
  unfold carryColdStart
  split
  · rfl
  · exact refuse_alloc

theorem carryAuthorise_follow {nozzle customerClass priority : Octet} {moneyLimit : BitVec 32}
    {massLimit : BitVec 48} : BanksFollow c.alloc.banks
      (c.carryAuthorise t nozzle moneyLimit massLimit customerClass priority).eff.ctl.alloc.banks := by
  have refused : ∀ why, BanksFollow c.alloc.banks (c.refuse t why).eff.ctl.alloc.banks := fun why => by
    rw [refuse_alloc]
    exact .refl _
  unfold carryAuthorise
  split
  · exact refused _
  · split
    · exact refused _
    · split
      · exact (authorise_follow (.refl _)).1
      · exact refused _

theorem carryCancel_follow {nozzle : Octet} :
    BanksFollow c.alloc.banks (c.carryCancel t nozzle).eff.ctl.alloc.banks := by
  have refused : ∀ why, BanksFollow c.alloc.banks (c.refuse t why).eff.ctl.alloc.banks := fun why => by
    rw [refuse_alloc]
    exact .refl _
  unfold carryCancel
  split
  · exact refused _
  · split
    · exact (cancel_follow (.refl _)).1
    · exact refused _

theorem carryTariff_alloc {prices : Vector (BitVec 16) 8} {effective : BitVec 32} :
    (c.carryTariff t prices effective).eff.ctl.alloc = c.alloc := by
  unfold carryTariff
  split
  · rfl
  · exact refuse_alloc

theorem carryRead_alloc {seq : Nat} {part : Option Octet} : (c.carryRead t seq part).eff.ctl.alloc = c.alloc := by
  unfold carryRead
  split
  · rfl
  · exact refuse_alloc

theorem carryAcknowledge_alloc {seq : Nat} : (c.carryAcknowledge seq).eff.ctl.alloc = c.alloc := by
  simp [carryAcknowledge, Eff.ok]

theorem carryAttach_alloc {seq : Nat} {reference : List Octet} :
    (c.carryAttach t seq reference).eff.ctl.alloc = c.alloc := by
  unfold carryAttach
  split
  · rfl
  · exact refuse_alloc

theorem carryRefresh_alloc {seq : Nat} : (c.carryRefresh t seq).eff.ctl.alloc = c.alloc := by
  unfold carryRefresh
  split <;> [split; skip]
  · rfl
  · exact refuse_alloc
  · exact refuse_alloc

theorem carryVerify_alloc {seq : Nat} {word : BitVec 32} : (c.carryVerify t seq word).eff.ctl.alloc = c.alloc := by
  unfold carryVerify
  split <;> [split; skip]
  · rfl
  · exact refuse_alloc
  · exact refuse_alloc

end Carried

end Controller

/-- Every command keeps R34. -/
theorem exec_keepsHolders (i : Instr) (s : State) : s.KeepsHolders (exec i s) := by
  cases i with
  | receiveGapTimeout p =>
    simp only [exec, execReceiveGapTimeout]
    exact s.does_keepsHolders fun _ h => h
  | telegramArrival p octets =>
    simp only [exec, execTelegramArrival]
    exact s.does_keepsHolders fun _ h => h
  | octetArrival p octet =>
    simp only [exec, execOctetArrival]
    exact s.does_keepsHolders fun _ h => h
  | linkTimeout p =>
    simp only [exec, execLinkTimeout]
    exact s.does_keepsHolders fun _ h => linkTimedOut_holdersAgree h
  | transmissionEnd p =>
    simp only [exec, execTransmissionEnd]
    exact s.does_keepsHolders fun _ h => transmissionEnded_holdersAgree h
  | hello p tag role nozzle =>
    simp only [exec, execHello]
    exact s.request_keepsHolders_of_follow _ fun _ _ => carryHello_follow
  | status p tag part =>
    simp only [exec, execStatus]
    exact s.request_keepsHolders _ fun _ _ h => h
  | isolateBank p tag bank =>
    simp only [exec, execIsolateBank]
    exact s.request_keepsHolders _ fun _ _ => carryIsolate_holdersAgree
  | restoreBank p tag bank =>
    simp only [exec, execRestoreBank]
    exact s.request_keepsHolders _ fun _ _ => carryRestore_holdersAgree
  | pauseFills p tag seconds =>
    simp only [exec, execPauseFills]
    exact s.request_keepsHolders_of_alloc _ fun _ _ => carryPause_alloc
  | clearCompressorFault p tag =>
    simp only [exec, execClearCompressorFault]
    exact s.request_keepsHolders _ fun _ _ => carryClear_holdersAgree
  | writeSettings p tag group entries rest =>
    simp only [exec, execWriteSettings]
    exact s.requestLater_keepsHolders _ fun _ _ => carryWrite_holdersAgree
  | settingsHandOver =>
    simp only [exec, execSettingsHandOver]
    exact State.keepsHolders_withCtl takeOwed_holdersAgree
  | lockGroup p tag group =>
    simp only [exec, execLockGroup]
    exact s.request_keepsHolders_of_alloc _ fun _ _ => carryLock_alloc
  | unlockGroup p tag group =>
    simp only [exec, execUnlockGroup]
    exact s.request_keepsHolders_of_alloc _ fun _ _ => carryLock_alloc
  | setMetrologyLock p tag =>
    simp only [exec, execSetMetrologyLock]
    exact s.request_keepsHolders _ fun _ _ h => h
  | setClock p tag value =>
    simp only [exec, execSetClock]
    exact s.request_keepsHolders_of_alloc _ fun _ _ => carryClock_alloc
  | restart p tag =>
    simp only [exec, execRestart]
    exact s.request_keepsHolders _ fun _ _ h => h
  | coldStart p tag =>
    simp only [exec, execColdStart]
    exact s.request_keepsHolders_of_alloc _ fun _ _ => carryColdStart_alloc
  | authorise p tag nozzle l m k prio =>
    simp only [exec, execAuthorise]
    exact s.request_keepsHolders_of_follow _ fun _ _ => carryAuthorise_follow
  | cancel p tag nozzle =>
    simp only [exec, execCancel]
    exact s.request_keepsHolders_of_follow _ fun _ _ => carryCancel_follow
  | writeTariff p tag prices effective =>
    simp only [exec, execWriteTariff]
    exact s.request_keepsHolders_of_alloc _ fun _ _ => carryTariff_alloc
  | readRecord p tag seq part =>
    simp only [exec, execReadRecord]
    exact s.request_keepsHolders_of_alloc _ fun _ _ => carryRead_alloc
  | acknowledge p tag seq =>
    simp only [exec, execAcknowledge]
    exact s.request_keepsHolders_of_alloc _ fun _ _ => carryAcknowledge_alloc
  | attachReference p tag seq reference =>
    simp only [exec, execAttachReference]
    exact s.request_keepsHolders_of_alloc _ fun _ _ => carryAttach_alloc
  | refreshCheck p tag seq =>
    simp only [exec, execRefreshCheck]
    exact s.request_keepsHolders_of_alloc _ fun _ _ => carryRefresh_alloc
  | verifyCheck p tag seq word =>
    simp only [exec, execVerifyCheck]
    exact s.request_keepsHolders_of_alloc _ fun _ _ => carryVerify_alloc
  | bankSample p tag entries rest =>
    simp only [exec, execBankSample]
    exact s.report_keepsHolders _ fun _ _ h => h
  | chillerSample p tag supply derate =>
    simp only [exec, execChillerSample]
    exact s.report_keepsHolders _ fun _ _ h => h
  | ambientSample p tag a1 a2 a3 =>
    simp only [exec, execAmbientSample]
    exact s.report_keepsHolders _ fun _ _ h => h
  | compressorSample p tag inlet discharge =>
    simp only [exec, execCompressorSample]
    exact s.report_keepsHolders _ fun _ _ => holdersAgree_of_follow (takeCompressorSample_follow (.refl _)).1
  | nozzleConnect p tag v d =>
    simp only [exec, execNozzleConnect]
    exact s.report_keepsHolders _ fun _ _ h => forNozzle_holdersAgree h fun _ => takeConnect_follow (.refl _)
  | nozzleHang p tag =>
    simp only [exec, execNozzleHang]
    exact s.report_keepsHolders _ fun _ _ h => forNozzle_holdersAgree h fun _ => nozzleHang_follow (.refl _)
  | stopPress p tag =>
    simp only [exec, execStopPress]
    exact s.report_keepsHolders _ fun _ _ h => forNozzle_holdersAgree h fun _ => stopPress_follow (.refl _)
  | fieldSample p tag pressure gas tank flags count =>
    simp only [exec, execFieldSample]
    exact s.report_keepsHolders _ fun _ _ h => forNozzle_holdersAgree h fun _ => fieldSample_follow (.refl _)
  | valveConfirm p tag bank generation state =>
    simp only [exec, execValveConfirm]
    exact s.report_keepsHolders _ fun _ _ => takeValveConfirm_holdersAgree
  | runConfirm p tag state =>
    simp only [exec, execRunConfirm]
    exact s.report_keepsHolders _ fun _ _ => holdersAgree_of_follow (takeRunConfirm_follow (.refl _)).1
  | flowConfirm p tag generation state =>
    simp only [exec, execFlowConfirm]
    refine s.report_keepsHolders _ fun _ _ h => forNozzle_holdersAgree h fun n => ?_
    simp [BanksFollow.refl]
  | ventDone p tag count =>
    simp only [exec, execVentDone]
    refine s.report_keepsHolders _ fun _ _ h => forNozzle_holdersAgree h fun n => ?_
    simp [BanksFollow.refl]
  | powerUp =>
    simp only [exec, execPowerUp]
    exact State.keepsHolders_withCtl powerUp_holdersAgree
  | resetAssert =>
    simp only [exec, execResetAssert]
    exact State.keepsHolders_withCtl resetAssert_holdersAgree
  | resetRelease =>
    simp only [exec, execResetRelease]
    exact State.keepsHolders_withCtl resetRelease_holdersAgree
  | clockSecond =>
    simp only [exec, execClockSecond]
    exact State.keepsHolders_withCtl (holdersAgree_congr (congrArg Allocator.banks (clockSecond_alloc _))).2
  | valveOpenTimeout b =>
    simp only [exec, execValveOpenTimeout]
    exact s.does_keepsHolders fun _ => valveTimedOut_holdersAgree
  | valveCloseTimeout b =>
    simp only [exec, execValveCloseTimeout]
    exact s.does_keepsHolders fun _ => valveTimedOut_holdersAgree
  | runStartTimeout =>
    simp only [exec, execRunStartTimeout]
    exact s.does_keepsHolders_of_follow fun _ => takeStartTimeout_follow (.refl _)
  | runStopTimeout =>
    simp only [exec, execRunStopTimeout]
    exact s.does_keepsHolders fun _ => (holdersAgree_congr takeStopTimeout_banks).2
  | stallWindowExpiry =>
    simp only [exec, execStallWindowExpiry]
    exact s.does_keepsHolders_of_follow fun _ => takeStall_follow (.refl _)
  | backoffExpiry =>
    simp only [exec, execBackoffExpiry]
    exact s.does_keepsHolders fun _ h => ifRuns_holdersAgree h (backoffExpired_follow (.refl _))
  | ambientHoldExpiry =>
    simp only [exec, execAmbientHoldExpiry]
    exact s.does_keepsHolders fun _ h => ifRuns_holdersAgree h (Eff.follow_of.2 (.refl _))
  | connectWaitExpiry n =>
    simp only [exec, execConnectWaitExpiry]
    exact s.does_keepsHolders fun _ h => ifRuns_holdersAgree h (connectWaitExpired_follow (.refl _))
  | resourceWaitExpiry n =>
    simp only [exec, execResourceWaitExpiry]
    exact s.does_keepsHolders fun _ h => ifRuns_holdersAgree h (resourceWaitExpired_follow (.refl _))
  | pulseDelayExpiry n =>
    simp only [exec, execPulseDelayExpiry]
    exact s.does_keepsHolders fun _ h => ifRuns_holdersAgree h (by simp [BanksFollow.refl])
  | pulseWidthExpiry n =>
    simp only [exec, execPulseWidthExpiry]
    exact s.does_keepsHolders fun _ h => ifRuns_holdersAgree h (by simp [BanksFollow.refl])
  | sensitivePartEnd n =>
    simp only [exec, execSensitivePartEnd]
    exact s.does_keepsHolders fun _ h => h
  | settleWindowEnd n =>
    simp only [exec, execSettleWindowEnd]
    exact s.does_keepsHolders fun _ h => ifRuns_holdersAgree h (settleWindowEnded_follow (.refl _))
  | flowOrderTimeout n =>
    simp only [exec, execFlowOrderTimeout]
    exact s.does_keepsHolders fun _ h => ifRuns_holdersAgree h (flowTimedOut_follow (.refl _))
  | ventTimeout n =>
    simp only [exec, execVentTimeout]
    exact s.does_keepsHolders fun _ h => ifRuns_holdersAgree h (by simp [BanksFollow.refl])
  | progressTimerExpiry n =>
    simp only [exec, execProgressTimerExpiry]
    exact s.does_keepsHolders fun _ h => ifRuns_holdersAgree h (by simp [BanksFollow.refl])
  | rampStepExpiry n =>
    simp only [exec, execRampStepExpiry]
    exact s.does_keepsHolders fun _ h => ifRuns_holdersAgree h (Eff.follow_of.2 (rampStep_follow (.refl _)))
  | holdPeriodExpiry n =>
    simp only [exec, execHoldPeriodExpiry]
    refine s.does_keepsHolders_of_follow fun c => ?_
    split
    · exact holdPeriodExpired_follow (.refl _)
    · exact Eff.follow_of.2 (.refl _)
  | pauseTimerExpiry =>
    simp only [exec, execPauseTimerExpiry]
    exact s.does_keepsHolders fun _ h => ifRuns_holdersAgree h (by simp [BanksFollow.refl])
  | stopThresholdReached n =>
    simp only [exec, execStopThresholdReached]
    exact s.does_keepsHolders_of_follow fun _ => takeStopReport_follow (.refl _)
  | meterFaultReport n =>
    simp only [exec, execMeterFaultReport]
    exact s.does_keepsHolders_of_follow fun _ => takeFaultReport_follow (.refl _)
  | pacingTimerExpiry =>
    simp only [exec, execPacingTimerExpiry]
    exact s.does_keepsHolders fun _ h => ifRuns_holdersAgree h (by simp [BanksFollow.refl])
  | coreSupplyLoss disturbed =>
    simp only [exec, execCoreSupplyLoss]
    exact State.keepsHolders_withCtl (holdersAgree_congr (congrArg Allocator.banks (coreLost_alloc _ _))).2
  | retainedDomainSupplyLoss =>
    simp only [exec, execRetainedDomainSupplyLoss]
    exact State.keepsHolders_withCtl fun h => h

/-- The same of a step. -/
theorem step_keepsHolders (s : State) : s.KeepsHolders (step s) := by
  unfold step
  split
  · exact exec_keepsHolders _ { s with pending := _ }
  · split
    · exact exec_keepsHolders _ s
    · exact State.keepsHolders_withCtl passTime_holdersAgree

end Sys2Proof.Machine

open Sys2Proof.Machine in
/-- Settles O6: an operation of a step either follows every bank record, granting IDLE banks alone, or frees a bank or
isolates it, its state and its holder changed together. -/
theorem stepKeepsHolders : Obligations.step_keeps_holders := by
  unfold Obligations.step_keeps_holders
  exact fun s t h e => step_keepsHolders s t e h
end

-- Storage banks: the release of a bank (R41).
section
/-! R37, R41: the BANK_VALVE order of a bank, and its release. -/

namespace Sys2Proof.Machine

/-- R8: an order at a port that is DOWN takes a tag alone. -/
theorem PortRec.ordered_down (r : PortRec) (kind : Octet) (body : List Octet) (h : r.link = .down) :
    r.ordered kind body = { r with tagCounter := r.tagCounter + 1 } := if_neg (by simp [h])

/-- R15: an order finds its place in the queue of a port with room. -/
theorem PortRec.ordered_up (r : PortRec) (kind : Octet) (body : List Octet) (h : r.link = .up)
    (hfree : r.answerPlace = false) (hlen : r.outbound.length < 12) (hheld : r.orderHold = []) :
    r.ordered kind body = { r with
      tagCounter := r.tagCounter + 1, outbound := enqueue ⟨kind, r.tagCounter, body⟩ r.outbound } := by
  have hplace : ({ r with tagCounter := r.tagCounter + 1 } : PortRec).hasPlace = true := by
    simpa [PortRec.hasPlace, hfree] using hlen
  exact (if_pos h).trans (PortRec.placed_in_free_place _ _ hplace hheld).1

/-- R37: a CLOSE carries the limit pressure 0. -/
theorem Controller.closeBody (c : Controller) (b : BankId) (h : Holder) (generation : Octet) :
    bankValveBody b h .closed generation (c.limitPressure b h .closed) =
      [BitVec.ofNat 8 (b.val + 1), h.code, 0x02, generation, 0, 0, 0] := by
  have hlimit : c.limitPressure b h .closed = 0 := by cases h <;> rfl
  rw [hlimit]
  rfl

end Sys2Proof.Machine

open Sys2Proof.Machine in
/-- Settles O20: the cases of the release, the order of the last placed in the queue of a port with room. -/
theorem bankRelease : Obligations.bank_release := by
  unfold Obligations.bank_release
  intro c b h hroom hfree
  simp only [Controller.releaseBank]
  split
  · rfl
  · cases horder : (c.bank b).order with
    | some o => cases hpending : (c.bank b).releasePending <;> simp [Controller.updBank, horder]
    | none =>
      cases hpending : (c.bank b).releasePending with
      | true => rfl
      | false =>
        simp only [Bool.false_eq_true, if_false, Controller.handValve_eq, Controller.closeBody, hpending]
        cases hlink : (c.port plantPort).link with
        | down => rw [PortRec.ordered_down _ _ _ hlink, hlink]
        | up =>
          obtain ⟨hlen, hheld⟩ := hroom hlink
          rw [PortRec.ordered_up _ _ _ hlink hfree hlen hheld, hlink]
end

-- Storage banks: the valve confirmations (R38 to R42), refuted at a queue that has no place for the last telegram.
section
/-! The statement on the expiry of an OPEN order of a bank the compressor holds gives room for three telegrams: the CLOSE
of that bank, the STOP and the notice. It does not say that this bank is the one the Scheduler refills. Where the
Scheduler holds another bank, the end of the refill hands that bank's CLOSE as well, and the notice finds no place. -/

namespace Sys2Proof.Machine

/-- A bank that the compressor holds, with or without an order in flight. -/
def heldByCompressor (o : Option ValveOrder) : BankRec :=
  { restBank .low 1 with state := .refilling, holder := some .compressor, order := o }

/-- The OPEN order of bank 1, its confirmation timer running. -/
def openingOrder : ValveOrder := ⟨.opened, 5, .compressor, 1, some 0⟩

/-- The plant port, UP, with a telegram on the line and 9 more behind it: three places are free. -/
def threePlacesFree : PortRec :=
  { restPort .inService with
    link := .up, line := some ⟨0x60, 0, []⟩, outbound := List.replicate 9 ⟨0x60, 0, []⟩ }

/-- A compressor STARTING the refill of bank 2, while the OPEN order of bank 1, which it holds too, expires. -/
def holdsTwoBanks : State :=
  ⟨[], { coldController with
    ports := coldController.ports.set plantPort threePlacesFree
    alloc := { coldAllocator with
      banks := (coldAllocator.banks.set 0 (heldByCompressor (some openingOrder))).set 1 (heldByCompressor none) }
    sched := { restScheduler with state := .starting, refillBank := some 1, heldBank := some ⟨1, false⟩ } }⟩

/-- How many telegrams wait at the plant port of a next state. -/
def plantQueueLength : Host.Outcome State Fault Refusal → Nat
  | .next t => (t.ctl.port plantPort).outbound.length
  | _ => 0

theorem holdsTwoBanks_meets_the_premises :
    let c := holdsTwoBanks.ctl
    c.atRest ∧ c.roomFor plantPort 3 ∧ (0 : BankId).val < c.alloc.bankCount ∧
      (c.bank 0).order = some openingOrder ∧ (c.bank 0).holder = some .compressor ∧ (c.bank 0).nextHolder = none ∧
      (c.bank 0).releasePending = false ∧ c.sched.refilling = true ∧ c.alloc.precoolList = [] ∧
      c.alloc.compressorClaim = none ∧ c.sched.claimPending = none := by
  decide +kernel

/-- The model's queue is full: the two CLOSE orders and the STOP have taken the three places. -/
theorem holdsTwoBanks_fills_the_queue : plantQueueLength (exec (.valveOpenTimeout 0) holdsTwoBanks) = 12 := by
  decide +kernel

end Sys2Proof.Machine

open Sys2Proof Sys2Proof.Machine in
/-- Refutes O38: the statement sends four telegrams to a plant port with three places, where the model discards the
notice. -/
theorem not_valvesAreConfirmed : ¬ Obligations.valves_are_confirmed := by
  unfold Obligations.valves_are_confirmed
  rintro ⟨-, -, -, -, hcompressor, -⟩
  obtain ⟨hrest, hroom, hcount, horder, hholder, hnext, hpending, hrefilling, hlist, hclaim, hnone⟩ :=
    holdsTwoBanks_meets_the_premises
  have hroom2 : holdsTwoBanks.ctl.roomFor plantPort 2 := fun hup => ⟨by have := (hroom hup).1; omega, (hroom hup).2⟩
  obtain ⟨-, -, hexpires⟩ :=
    hcompressor holdsTwoBanks 0 openingOrder [] hrest hroom2 hcount horder hholder hnext
  have hstated := congrArg plantQueueLength
    (hexpires rfl hpending rfl hrefilling hlist hclaim hnone hroom)
  rw [holdsTwoBanks_fills_the_queue] at hstated
  exact absurd hstated (by decide +kernel)
end

-- Storage banks: steps of several events, and the orders they hand the plant.
section
/-! The running of a step's events, and the plant port while they run. The orders of a step wait in the queue until its
end, when the line takes the head (R14); the statements send each telegram at once. A queue that lags behind so is
compared with the one the statements speak of. -/

namespace Sys2Proof.Machine

/-! ## The running of events (log entry 4) -/

namespace Controller

/-- The events `es`, taken from `c` with all that they tell, lead to `d` in `n` events, whatever waits behind them. -/
def Leads (n : Nat) (es : List Event) (c d : Controller) : Prop :=
  ∀ (l : List Event) (k : Nat), ({ c with owed := es ++ l }).runOwed (n + k) = ({ d with owed := l }).runOwed k

theorem Leads.nil (c : Controller) : Leads 0 [] c c := fun _ _ => by rw [Nat.zero_add]; rfl

/-- The first event is taken, and what it tells stands before the others. -/
theorem Leads.cons {n : Nat} {e : Event} {es told : List Event} {c x d : Controller}
    (h : ∀ l, ({ c with owed := l }).handle e = ⟨{ x with owed := l }, told⟩) (hl : Leads n (told ++ es) x d) :
    Leads (n + 1) (e :: es) c d := fun l k => by
  have htail := hl l k
  rw [List.append_assoc] at htail
  rw [Nat.add_right_comm, runOwed_cons _ _ e (es ++ l) rfl]
  exact (congrArg (fun f : Eff => f.owe.runOwed (n + k)) (h (es ++ l))).trans htail

theorem Leads.append {n m : Nat} {es es' : List Event} {c x d : Controller} (h : Leads n es c x)
    (h' : Leads m es' x d) : Leads (n + m) (es ++ es') c d := fun l k => by
  rw [List.append_assoc, Nat.add_assoc, h (es' ++ l) (m + k), h' l k]

/-- An event that changes nothing and tells nothing. -/
theorem Leads.skip {n : Nat} {e : Event} {es : List Event} {c d : Controller}
    (h : ∀ l, ({ c with owed := l }).handle e = .of { c with owed := l }) (hl : Leads n es c d) :
    Leads (n + 1) (e :: es) c d := Leads.cons (x := c) (told := []) h hl

/-- A step of a controller at rest whose operation tells of events that lead to `d`. -/
theorem perform_leads (c x d : Controller) (f : Controller → Eff) (n : Nat) (es : List Event) (h : c.atRest)
    (hf : f c = ⟨x, es⟩) (hx : x.owed = []) (hl : Leads n es x d) (hn : n ≤ 4096) (hd : d.owed = []) :
    c.perform f = d.settleLines := by
  obtain ⟨hr, ho, -⟩ := h
  have hfuel : eventFuel = n + (4096 - n) := by
    rw [show eventFuel = 4096 from rfl]
    omega
  have howe : (⟨x, es⟩ : Eff).owe = { x with owed := es ++ [] } := by rw [Eff.owe, hx]
  have hnone : ({ d with owed := [] } : Controller) = d := by rw [← hd]
  have hdone : (⟨x, es⟩ : Eff).owe.settle = d := by
    rw [settle, hfuel, howe, hl [] _, hnone]
    exact d.runOwed_nil _ hd
  rw [perform, if_pos hr, c.settle_nil ho, hf, hdone]

end Controller

/-! ## A queue that lags (R14, R15) -/

/-- R14: a telegram of a lower priority finds its place before or after one of a higher. -/
theorem enqueue_comm (a o : Telegram) (h : a.priority < o.priority) (q : List Telegram) :
    enqueue o (enqueue a q) = enqueue a (enqueue o q) := by
  have hlast : ¬ o.priority < a.priority := by omega
  induction q with
  | nil => simp [enqueue, h, hlast]
  | cons u q ih =>
    by_cases ha : u.priority < a.priority
    · have ho : u.priority < o.priority := by omega
      simp [enqueue, ha, ho, h, hlast]
    · by_cases ho : u.priority < o.priority
      · simp [enqueue, ha, ho, hlast]
      · simp [enqueue, ha, ho, ih]

/-- R13, R15: a port whose request has been taken and whose answer waits in the queue: the requests behind it, and the
answer; or one at which no request is carried out. -/
abbrev Late := Option (List Telegram × Telegram)

/-- The port with its answer in the queue. -/
def PortRec.withLate (r : PortRec) : Late → PortRec
  | none => r
  | some (rest, a) => { r with inbound := rest, outbound := enqueue a r.outbound }

/-- The port with its answer sent. -/
def PortRec.answering (r : PortRec) : Late → PortRec
  | none => r
  | some (rest, a) => ({ r with inbound := rest } : PortRec).sends a

/-- The controller with its answer sent to the plant. -/
def Controller.answering (d : Controller) : Late → Controller
  | none => d
  | some (rest, a) => d.answered plantPort rest a

/-- How many places the answer takes. -/
def Late.places : Late → Nat
  | none => 0
  | some _ => 1

/-- The port `base`, whose line has not yet taken its head, becomes `q` when it does: the head of its queue is an order,
and `k` places are free beside the answer's. -/
structure PortRec.Lags (k : Nat) (late : Late) (base q : PortRec) : Prop where
  pumped : base.pump = q
  free : base.answerPlace = false
  room : base.link = .up → 0 < k → base.outbound.length + late.places + k ≤ 12
  held : base.link = .up ∧ 0 < k ∨ late.isSome = true → base.orderHold = []
  head : base.line = none → ∀ t ∈ base.outbound.head?, 2 ≤ t.priority
  low : ∀ x ∈ late, x.2.priority = 1

/-- A served port with room. -/
theorem PortRec.lags_self {k : Nat} {late : Late} (r : PortRec) (hl : r.line = none → r.outbound = [])
    (hfree : r.answerPlace = false) (hroom : r.link = .up → 0 < k → r.outbound.length + late.places + k ≤ 12)
    (hheld : r.link = .up ∧ 0 < k ∨ late.isSome = true → r.orderHold = []) (hlow : ∀ x ∈ late, x.2.priority = 1) :
    r.Lags k late r :=
  ⟨r.pump_eq_self hl, hfree, hroom, hheld, fun hline t ht => by simp [hl hline] at ht, hlow⟩

/-- R16: a port at which an order is sent. -/
def PortRec.orderSent (r : PortRec) (kind : Octet) (body : List Octet) : PortRec :=
  match r.link with
  | .up => ({ r with tagCounter := r.tagCounter + 1 } : PortRec).sends ⟨kind, r.tagCounter, body⟩
  | .down => { r with tagCounter := r.tagCounter + 1 }

theorem PortRec.orderSent_up (r : PortRec) (kind : Octet) (body : List Octet) (h : r.link = .up) :
    r.orderSent kind body = { r.sends ⟨kind, r.tagCounter, body⟩ with tagCounter := r.tagCounter + 1 } := by
  cases hline : r.line <;> simp only [PortRec.orderSent, PortRec.sends, h, hline]

theorem PortRec.orderSent_down (r : PortRec) (kind : Octet) (body : List Octet) (h : r.link = .down) :
    r.orderSent kind body = { r with tagCounter := r.tagCounter + 1 } := by
  simp only [PortRec.orderSent, h]

theorem Controller.orders_eq (c : Controller) (p : PortId) (kind : Octet) (body : List Octet) :
    c.orders p kind body = c.setPort p ((c.port p).orderSent kind body) := by
  unfold Controller.orders PortRec.orderSent
  cases h : (c.port p).link <;> simp [h]

/-- The line of a port takes its head, or the queue is left as it was. -/
theorem PortRec.pump_head (r : PortRec) (t : Telegram) (q : List Telegram) (hline : r.line = none)
    (hq : r.outbound = t :: q) (hheld : r.orderHold = []) : r.pump = { r with line := some t, outbound := q } := by
  simp [PortRec.pump, hline, hq, hheld]

theorem PortRec.pump_busy (r : PortRec) (t : Telegram) (hline : r.line = some t) : r.pump = r := by
  simp [PortRec.pump, hline]

theorem PortRec.pump_empty (r : PortRec) (hq : r.outbound = []) : r.pump = r := r.pump_eq_self fun _ => hq

/-- A telegram placed behind the head that the line will take: sent at once, or placed now and sent then. -/
theorem PortRec.pump_placed (r : PortRec) (o : Telegram) (hheld : r.orderHold = [])
    (hhead : r.line = none → ∀ t ∈ r.outbound.head?, o.priority ≤ t.priority) :
    ({ r with outbound := enqueue o r.outbound } : PortRec).pump = r.pump.sends o := by
  cases hline : r.line with
  | some u =>
    have hbusy : ({ r with outbound := enqueue o r.outbound } : PortRec).pump =
        { r with outbound := enqueue o r.outbound } := PortRec.pump_busy _ u hline
    rw [r.pump_busy u hline]
    simpa only [PortRec.sends, hline] using hbusy
  | none =>
    cases hq : r.outbound with
    | nil =>
      have htaken : ({ r with outbound := [o] } : PortRec).pump = { r with line := some o, outbound := [] } :=
        PortRec.pump_head _ o [] hline rfl hheld
      rw [r.pump_empty hq]
      simp only [PortRec.sends, hline, enqueue]
      simpa only [hline, hq] using htaken
    | cons t q =>
      have hle : ¬ t.priority < o.priority := by
        have := hhead hline t (by rw [hq]; rfl)
        omega
      have hplaced : enqueue o (t :: q) = t :: enqueue o q := by simp [enqueue, hle]
      have htaken : ({ r with outbound := t :: enqueue o q } : PortRec).pump =
          { r with line := some t, outbound := enqueue o q } := PortRec.pump_head _ t (enqueue o q) hline rfl hheld
      rw [r.pump_head t q hline hq hheld, hplaced]
      simpa only [PortRec.sends, hline] using htaken

/-- The tag counter and the inbound queue are no matter of the line. -/
theorem PortRec.pump_withTag (r : PortRec) (tag : Octet) :
    ({ r with tagCounter := tag } : PortRec).pump = { r.pump with tagCounter := tag } := by
  obtain ⟨service, link, assembly, gap, inbound, outbound, held, timer, counter, line, place⟩ := r
  cases line <;> cases outbound <;> [rfl; cases held <;> rfl; rfl; rfl]

theorem PortRec.pump_withInbound (r : PortRec) (l : List Telegram) :
    ({ r with inbound := l } : PortRec).pump = { r.pump with inbound := l } := by
  obtain ⟨service, link, assembly, gap, inbound, outbound, held, timer, counter, line, place⟩ := r
  cases line <;> cases outbound <;> [rfl; cases held <;> rfl; rfl; rfl]

theorem PortRec.Lags.link {k : Nat} {late : Late} {base q : PortRec} (h : base.Lags k late q) : q.link = base.link := by
  rw [← h.pumped, PortRec.pump_link]

theorem PortRec.Lags.tagCounter {k : Nat} {late : Late} {base q : PortRec} (h : base.Lags k late q) :
    q.tagCounter = base.tagCounter := by
  rw [← h.pumped, PortRec.pump_tagCounter]

theorem PortRec.Lags.fewer {k m : Nat} {late : Late} {base q : PortRec} (h : base.Lags k late q) (hm : m ≤ k) :
    base.Lags m late q :=
  { h with
    room := fun hup hpos => by have := h.room hup (by omega); omega
    held := fun hup => h.held (hup.imp_left fun hup => ⟨hup.1, by omega⟩) }

/-- R15: an order finds its place in a queue that lags, before the answer that waits there. -/
theorem PortRec.Lags.order {k : Nat} {late : Late} {base q : PortRec} (kind : Octet) (body : List Octet)
    (hkind : ∀ tag, Telegram.priority ⟨kind, tag, body⟩ = 2) (h : base.Lags (k + 1) late q) :
    ∃ base' : PortRec, (base.withLate late).ordered kind body = base'.withLate late ∧
      base'.Lags k late (q.orderSent kind body) := by
  obtain ⟨hpump, hfree, hroom, hheld, hhead, hlow⟩ := id h
  have htag := h.tagCounter
  cases hlink : base.link with
  | down =>
    refine ⟨{ base with tagCounter := base.tagCounter + 1 }, ?_, ?_⟩
    · cases late with
      | none => exact base.ordered_down kind body hlink
      | some x => exact PortRec.ordered_down _ kind body hlink
    · refine ⟨?_, hfree, fun hup => ?_, fun hup => hheld (hup.imp_left fun hup => ⟨hup.1, by omega⟩), hhead, hlow⟩
      · rw [PortRec.pump_withTag, hpump, PortRec.orderSent_down _ _ _ (h.link.trans hlink), htag]
      · exact absurd (hlink.symm.trans hup) (by decide)
  | up =>
    have hlen := hroom hlink (by omega)
    have hno := hheld (.inl ⟨hlink, by omega⟩)
    have htop : base.line = none → ∀ t ∈ base.outbound.head?,
        Telegram.priority ⟨kind, base.tagCounter, body⟩ ≤ t.priority := fun hline t ht => by
      rw [hkind]
      exact hhead hline t ht
    refine ⟨{ base with
      tagCounter := base.tagCounter + 1, outbound := enqueue ⟨kind, base.tagCounter, body⟩ base.outbound }, ?_, ?_⟩
    · cases late with
      | none =>
        exact base.ordered_up kind body hlink hfree (by simp only [Late.places] at hlen; omega) hno
      | some x =>
        have hcomm := enqueue_comm x.2 ⟨kind, base.tagCounter, body⟩ (by rw [hkind, hlow x rfl]; decide) base.outbound
        have hshort : (enqueue x.2 base.outbound).length < 12 := by
          rw [enqueue_length]
          simp only [Late.places] at hlen
          omega
        refine (PortRec.ordered_up (base.withLate (some x)) kind body hlink hfree hshort hno).trans ?_
        simp only [PortRec.withLate, hcomm]
    · refine ⟨?_, hfree, fun _ _ => ?_, fun _ => hno, fun hline t ht => ?_, hlow⟩
      · rw [PortRec.orderSent_up _ _ _ (h.link.trans hlink), htag, ← hpump, ← base.pump_placed _ hno htop]
        exact PortRec.pump_withTag { base with outbound := enqueue _ base.outbound } _
      · simp only [enqueue_length]
        omega
      · cases hq : base.outbound with
        | nil =>
          simp only [hq, enqueue, List.head?_cons, Option.mem_some_iff] at ht
          rw [← ht, hkind]
        | cons u l =>
          have hu := htop hline u (by rw [hq]; rfl)
          have hnot : ¬ u.priority < Telegram.priority ⟨kind, base.tagCounter, body⟩ := by omega
          simp only [hq, enqueue, if_neg hnot, List.head?_cons, Option.mem_some_iff] at ht
          rw [← ht]
          exact hhead hline u (by rw [hq]; rfl)

/-- R14: the line takes its head, and the answer is sent behind it. -/
theorem PortRec.Lags.settled {k : Nat} {late : Late} {base q : PortRec} (h : base.Lags k late q) :
    (base.withLate late).pump = q.answering late := by
  obtain ⟨hpump, hfree, hroom, hheld, hhead, hlow⟩ := h
  cases late with
  | none => exact hpump
  | some x =>
    have hplaced := PortRec.pump_placed { base with inbound := x.1 } x.2 (hheld (.inr rfl)) fun hline t ht => by
      have := hhead hline t ht
      rw [hlow x rfl]
      omega
    refine hplaced.trans ?_
    rw [PortRec.pump_withInbound, hpump]
    rfl

/-! ## Two controllers, one of them lagging -/

/-- The controller `c`, in the midst of a step, is what the statements call `d`: its lines have not yet taken their
heads, an answer may wait at the plant port, and `k` places are free there for orders. -/
structure Controller.Lags (k : Nat) (late : Late) (c d : Controller) : Prop where
  rest : c = { d with ports := c.ports }
  plant : ∃ base : PortRec, c.port plantPort = base.withLate late ∧ base.Lags k late (d.port plantPort)
  others : ∀ q, q ≠ plantPort → (c.port q).pump = d.port q

namespace Controller.Lags

variable {k : Nat} {late : Late} {c d : Controller}

theorem owed (h : c.Lags k late d) : d.owed = c.owed := by
  rw [h.rest]

theorem fewer {m : Nat} (h : c.Lags k late d) (hm : m ≤ k) : c.Lags m late d := by
  obtain ⟨hrest, ⟨base, hbase, hlags⟩, hothers⟩ := h
  exact ⟨hrest, ⟨base, hbase, hlags.fewer hm⟩, hothers⟩

theorem tagCounter (h : c.Lags k late d) : (c.port plantPort).tagCounter = (d.port plantPort).tagCounter := by
  obtain ⟨-, ⟨base, hbase, hlags⟩, -⟩ := h
  rw [hbase, hlags.tagCounter]
  cases late <;> rfl

/-- A change of anything but the ports. -/
theorem map (f : Controller → Controller) (hf : ∀ x v, f { x with ports := v } = { f x with ports := v })
    (h : c.Lags k late d) : (f c).Lags k late (f d) := by
  obtain ⟨hrest, hplant, hothers⟩ := h
  have hc : f c = { f d with ports := c.ports } := by
    rw [← hf d c.ports, ← hrest]
  have hself : f d = { f d with ports := d.ports } := hf d d.ports
  have hd : (f d).ports = d.ports := by rw [hself]
  have hports : (f c).ports = c.ports := by rw [hc]
  refine ⟨by rw [hports]; exact hc, ?_, fun q hq => ?_⟩
  · rwa [Controller.port_of_ports hports, Controller.port_of_ports hd]
  · rw [Controller.port_of_ports hports, Controller.port_of_ports hd]
    exact hothers q hq

/-- An order handed to the plant. -/
theorem order (kind : Octet) (body : List Octet) (hkind : ∀ tag, Telegram.priority ⟨kind, tag, body⟩ = 2)
    (h : c.Lags (k + 1) late d) :
    (c.setPort plantPort ((c.port plantPort).ordered kind body)).Lags k late (d.orders plantPort kind body) := by
  obtain ⟨hrest, ⟨base, hbase, hlags⟩, hothers⟩ := h
  obtain ⟨base', hbase', hlags'⟩ := hlags.order kind body hkind
  rw [Controller.orders_eq]
  refine ⟨?_, ⟨base', ?_, ?_⟩, fun q hq => ?_⟩
  · rw [hrest]
    rfl
  · rw [Controller.port_setPort_self, hbase, hbase']
  · rwa [Controller.port_setPort_self]
  · rw [Controller.port_setPort_ne _ _ hq, Controller.port_setPort_ne _ _ hq]
    exact hothers q hq

/-- At the end of the step every line takes its head. -/
theorem settled (h : c.Lags k late d) : c.settleLines = d.answering late := by
  obtain ⟨hrest, ⟨base, hbase, hlags⟩, hothers⟩ := h
  have hend := hlags.settled
  have key : ∀ x : Controller, x = { d with ports := x.ports } →
      (∀ q, x.port q = (c.port q).pump) → c.settleLines = x := fun x hx hports => by
    rw [Controller.settleLines_eq, hx, hrest]
    refine congrArg (fun v => ({ d with ports := v } : Controller)) (Vector.ext fun i hi => ?_)
    have hi' := (hports ⟨i, hi⟩).symm
    rw [← Controller.port_settleLines] at hi'
    rw [← hrest]
    exact hi'
  cases late with
  | none =>
    refine key d rfl fun q => ?_
    by_cases hq : q = plantPort
    · subst hq
      rw [hbase, hend]
      rfl
    · exact (hothers q hq).symm
  | some x =>
    refine key _ rfl fun q => ?_
    by_cases hq : q = plantPort
    · subst hq
      rw [hbase, hend]
      simp [Controller.answering, PortRec.answering, Controller.answered, Controller.taken, Controller.sends]
    · rw [hothers q hq, Controller.answering, Controller.answered, Controller.sends, Controller.taken,
        Controller.port_setPort_ne _ _ hq, Controller.port_setPort_ne _ _ hq]

end Controller.Lags

end Sys2Proof.Machine
end

section
/-! Steps taken by a confirmation, a report or a request of the plant that tell of events. -/

namespace Sys2Proof.Machine

/-- A bank number of a configured bank names it. -/
theorem Controller.bankNamed_of (c : Controller) (o : Octet) (b : BankId) (ho : o.toNat = b.val + 1)
    (hb : b.val < c.alloc.bankCount) : c.bankNamed o = some b := by
  have hlt := b.isLt
  have hnumber : bankOfNumber o.toNat = some b := by
    rw [bankOfNumber, dif_pos ⟨by omega, by omega⟩]
    exact congrArg some (Fin.ext (by simp [ho]))
  simp [Controller.bankNamed, hnumber, Controller.configured, hb]

/-- An octet that is 0, or above the bank count, names none. -/
theorem Controller.bankNamed_none (c : Controller) (o : Octet)
    (h : o.toNat = 0 ∨ c.alloc.bankCount < o.toNat ∨ 12 < o.toNat) : c.bankNamed o = none := by
  unfold Controller.bankNamed bankOfNumber
  by_cases hin : 1 ≤ o.toNat ∧ o.toNat ≤ 12
  · have hnot : ¬ o.toNat - 1 < c.alloc.bankCount := by omega
    simp [hin, Controller.configured, hnot]
  · simp [hin]

/-- A bank an octet names carries its number and is configured. -/
theorem Controller.bankNamed_some {c : Controller} {o : Octet} {b : BankId} (h : c.bankNamed o = some b) :
    o.toNat = b.val + 1 ∧ b.val < c.alloc.bankCount := by
  unfold Controller.bankNamed bankOfNumber at h
  split at h
  · rename_i d hd
    split at h
    · rename_i hcount
      split at hd
      · rename_i hin
        simp only [Option.some.injEq] at h hd
        subst h
        rw [← hd] at hcount ⊢
        exact ⟨by simp; omega, by simpa [Controller.configured] using hcount⟩
      · cases hd
    · cases h
  · cases h

theorem bankNumber_toNat (b : BankId) : (BitVec.ofNat 8 (b.val + 1)).toNat = b.val + 1 := by
  have := b.isLt
  simp only [BitVec.toNat_ofNat]
  omega

/-- R10, R11: a report or confirmation of the plant whose owner tells of events. -/
theorem Controller.perform_told (c x d : Controller) (t : Telegram) (rest : List Telegram) (act : Controller → Eff)
    (n : Nat) (es : List Event) (h : c.atRest) (ha : c.told plantPort t rest) (ht : t.permitted = true)
    (hrole : roleMaySend (roleOf plantPort) t.kind = true) (hact : act (c.taken plantPort rest) = ⟨x, es⟩)
    (hx : x.owed = []) (hl : Controller.Leads n es x d) (hn : n ≤ 4096) (hd : d.owed = []) :
    c.perform (fun e => e.serveReport plantPort t act) = d.settleLines := by
  refine c.perform_leads x d _ n es h ?_ hx hl hn hd
  have htaken : c.updPort plantPort PortRec.takeHead = c.taken plantPort rest := by
    simp [Controller.updPort, PortRec.takeHead, Controller.taken, show (c.port plantPort).inbound = t :: rest from ha]
  rw [c.serveReport_told plantPort t rest act ht ha]
  simp only [Controller.takeHeadReport, htaken, hrole, if_true, hact]

/-- The plant port as its request is carried out and its answer placed, its line not yet served. -/
def Controller.placed (c : Controller) (rest : List Telegram) (a : Telegram) : Controller :=
  c.setPort plantPort ((c.port plantPort).withLate (some (rest, a)))

/-- R10, R13: a request of the plant that is carried out but for its events, which follow its answer into the queue. -/
theorem Controller.perform_asked (c e d : Controller) (t : Telegram) (rest : List Telegram)
    (carry : Controller → Carried) (result : Result) (body : List Octet) (n : Nat) (es : List Event) (hc : c.atRest)
    (ha : c.asked plantPort t rest) (ht : t.permitted = true)
    (hrole : roleMaySend (roleOf plantPort) t.kind = true) (hp : e.ports = c.ports) (ho : e.owed = [])
    (hcarry : carry (c.carrying plantPort rest) = ⟨⟨e.carrying plantPort rest, es⟩, result, body⟩)
    (hl : Controller.Leads n es (e.placed rest (answerTo t result body)) d) (hn : n ≤ 4096) (hd : d.owed = []) :
    c.perform (fun x => x.serveRequest plantPort t carry) = d.settleLines := by
  have hport : e.port plantPort = c.port plantPort := Controller.port_of_ports hp plantPort
  refine c.perform_leads (e.placed rest (answerTo t result body)) d _ n es hc ?_ ho hl hn hd
  rw [c.serveRequest_asked plantPort t rest carry ht ha]
  refine (c.answerHead_eq plantPort t rest carry _ ha.1 ((if_pos hrole).trans hcarry)).trans ?_
  have hplaced := e.carrying_answered plantPort rest (answerTo t result body) (by rw [hport]; exact ha.2.1)
    (by rw [hport]; exact hc.2.2.2 plantPort)
  exact congrArg (fun y => (⟨y, es⟩ : Eff)) hplaced

/-- A controller at rest is its own image, with as many places as the plant port has free. -/
theorem Controller.atRest.lags {c : Controller} (h : c.atRest) {k : Nat}
    (hroom : c.roomFor plantPort k) : c.Lags k none c := by
  obtain ⟨-, -, hl, hfree⟩ := h
  refine ⟨rfl, ⟨c.port plantPort, rfl, PortRec.lags_self _ (hl _) (hfree _) (fun hup _ => ?_) (fun hup => ?_) ?_⟩,
    fun q _ => PortRec.pump_eq_self _ (hl q)⟩
  · simpa [Late.places] using (hroom hup).1
  · rcases hup with hup | hlate
    · exact (hroom hup.1).2
    · cases hlate
  · rintro x ⟨⟩

/-- With no place for an order, whatever its queues hold. -/
theorem Controller.atRest.lags_none {c : Controller} (h : c.atRest) : c.Lags 0 none c := by
  obtain ⟨-, -, hl, hfree⟩ := h
  refine ⟨rfl, ⟨c.port plantPort, rfl, PortRec.lags_self _ (hl _) (hfree _) (fun _ hpos => ?_) (fun hup => ?_) ?_⟩,
    fun q _ => PortRec.pump_eq_self _ (hl q)⟩
  · exact absurd hpos (Nat.lt_irrefl 0)
  · rcases hup with hup | hlate
    · exact absurd hup.2 (Nat.lt_irrefl 0)
    · cases hlate
  · rintro x ⟨⟩

/-- The taking of a telegram from its inbound queue leaves a controller at rest. -/
theorem Controller.atRest.taken {c : Controller} (h : c.atRest) (rest : List Telegram) :
    (c.taken plantPort rest).atRest := by
  obtain ⟨hr, ho, hl, hfree⟩ := h
  refine ⟨hr, ho, fun q => ?_, fun q => ?_⟩ <;> by_cases hq : q = plantPort
  · subst hq; simpa [Controller.taken] using hl plantPort
  · simpa [Controller.taken, Controller.port_setPort_ne _ _ hq] using hl q
  · subst hq; simpa [Controller.taken] using hfree plantPort
  · simpa [Controller.taken, Controller.port_setPort_ne _ _ hq] using hfree q

theorem Controller.roomFor_taken {c : Controller} {k : Nat} (h : c.roomFor plantPort k) (rest : List Telegram) :
    (c.taken plantPort rest).roomFor plantPort k := by
  simpa [Controller.roomFor, Controller.taken] using h

/-- A controller at rest whose request's answer has been placed. -/
theorem Controller.atRest.lags_placed {c : Controller} (h : c.atRest) {k : Nat} {t : Telegram} {rest : List Telegram}
    {a : Telegram} (ha : c.asked plantPort t rest) (hroom : c.roomFor plantPort (k + 1)) (hlow : a.priority = 1) :
    (c.placed rest a).Lags k (some (rest, a)) c := by
  obtain ⟨-, -, hl, hfree⟩ := h
  refine ⟨rfl, ⟨c.port plantPort, ?_, PortRec.lags_self _ (hl _) (hfree _) (fun hup _ => ?_) (fun _ => ha.2.2.1) ?_⟩,
    fun q hq => ?_⟩
  · rw [Controller.placed, Controller.port_setPort_self]
  · have := (hroom hup).1
    simp only [Late.places]
    omega
  · rintro x ⟨⟩
    exact hlow
  · rw [Controller.placed, Controller.port_setPort_ne _ _ hq]
    exact PortRec.pump_eq_self _ (hl q)

end Sys2Proof.Machine
end

section
/-! R110: the entry of a fill into ENDING in the midst of a step, the lines not yet served. -/

namespace Sys2Proof.Machine

theorem PortRec.pump_pump (r : PortRec) : r.pump.pump = r.pump := r.pump.pump_eq_self r.pump_served

namespace Controller

theorem settleLines_settleLines (c : Controller) : c.settleLines.settleLines = c.settleLines :=
  settleLines_of_served _ c.settleLines_served

/-- Two controllers whose ports the lines leave alike. -/
theorem settleLines_congr {c d : Controller} (h : d = { c with ports := d.ports })
    (hport : ∀ q, (d.port q).pump = (c.port q).pump) : d.settleLines = c.settleLines := by
  have hports : d.settleLines.ports = c.settleLines.ports := Vector.ext fun i hi => by
    have := hport ⟨i, hi⟩
    rwa [← port_settleLines, ← port_settleLines] at this
  rw [settleLines_eq d, settleLines_eq c, hports, h]

/-- A bank that is not given up at once is no matter of the plant's queue. -/
theorem bankAsked_settleLines (c : Controller) (n : Nozzle)
    (h : ∀ ref ∈ (c.ctx n).currentBank, ¬ (c.bank ref.bank).freedNow (.nozzle n)) :
    c.settleLines.bankAsked n = { c.bankAsked n with ports := c.settleLines.ports } ∧
      (c.bankAsked n).ports = c.ports := by
  have hctx : c.settleLines.ctx n = c.ctx n := rfl
  unfold bankAsked
  rw [hctx]
  cases hbank : (c.ctx n).currentBank with
  | none => exact ⟨rfl, rfl⟩
  | some ref =>
    have hnot := h ref hbank
    simp only [Option.elim_some]
    rw [c.releaseBank_notes ref.bank n hnot, c.settleLines.releaseBank_notes ref.bank n hnot, port_settleLines,
      PortRec.pump_tagCounter]
    exact ⟨rfl, rfl⟩

/-- The orders of ENDING are the same before and after the lines are served, where the dispenser's line is served or an
order is in flight. -/
theorem endingOrders_settleLines (c : Controller) (n : Nozzle) (hwanted : (c.ctx n).wanted = .closed)
    (hnozzle : ((c.port (portOfNozzle n)).line = none → (c.port (portOfNozzle n)).outbound = []) ∨
      (c.ctx n).flowOrder ≠ none) :
    ((c.settleLines.driveFlow n).ventIfShut n).settleLines = ((c.driveFlow n).ventIfShut n).settleLines := by
  have hctx : c.settleLines.ctx n = c.ctx n := rfl
  have same : ∀ r, (c.settleLines.setPort (portOfNozzle n) r).settleLines = (c.setPort (portOfNozzle n) r).settleLines :=
    fun r => settleLines_congr rfl fun q => by
      by_cases hq : q = portOfNozzle n
      · subst hq
        rw [port_setPort_self, port_setPort_self]
      · rw [port_setPort_ne _ _ hq, port_setPort_ne _ _ hq, port_settleLines, PortRec.pump_pump]
  by_cases hnone : (c.ctx n).flowOrder = none
  · have hl := hnozzle.resolve_right fun h => h hnone
    have hport : c.settleLines.port (portOfNozzle n) = c.port (portOfNozzle n) := by
      rw [port_settleLines, PortRec.pump_eq_self _ hl]
    cases hflow : (c.ctx n).flow with
    | closed =>
      rw [c.endingOrders_vent n hwanted hflow hnone, c.settleLines.endingOrders_vent n hwanted hflow hnone, hport]
      exact congrArg (fun d : Controller => ({ d with
        contexts := c.contexts.set n
          { c.ctx n with ventOrder := some ⟨(c.port (portOfNozzle n)).tagCounter, some 10000⟩ }
        ring := { c.ring with records := c.recordsWith n (Record.withEnd (c.ctx n).measured) } } : Controller)) (same _)
    | opened =>
      cases hbank : (c.ctx n).flowBank with
      | none =>
        rw [c.endingOrders_none n (.inr ⟨hflow, hbank⟩), c.settleLines.endingOrders_none n (.inr ⟨hflow, hbank⟩),
          settleLines_settleLines]
      | some b =>
        rw [c.endingOrders_shut n b hwanted hflow hnone hbank,
          c.settleLines.endingOrders_shut n b hwanted hflow hnone hbank, hport]
        exact congrArg (fun d : Controller => ({ d with
          contexts := c.contexts.set n { c.ctx n with
            flowOrder := some ⟨.closed, (c.port (portOfNozzle n)).tagCounter, b.generation, some c.orderTime⟩ } } :
              Controller)) (same _)
  · rw [c.endingOrders_none n (.inl hnone), c.settleLines.endingOrders_none n (.inl hnone), settleLines_settleLines]

/-- R110: a fill whose bank is not given up at once enters ENDING in the midst of a step: what the step leaves is what
its end makes of the controller with its lines served. -/
theorem beginEnding_ends_unserved (c : Controller) (n : Nozzle) (why : EndReason)
    (hfree : ∀ p, (c.port p).answerPlace = false)
    (hbank : ∀ ref ∈ (c.ctx n).currentBank, ¬ (c.bank ref.bank).freedNow (.nozzle n))
    (hnozzle : ((c.port (portOfNozzle n)).line = none → (c.port (portOfNozzle n)).outbound = []) ∨
      (c.ctx n).flowOrder ≠ none) :
    c.settleLines.endsFill (c.beginEnding n why).ctl.settleLines n why := by
  have hfree' : ∀ p, (c.settleLines.port p).answerPlace = false := fun p => by
    rw [port_settleLines, PortRec.pump_answerPlace, hfree p]
  have hends := c.settleLines.beginEnding_ends n why c.settleLines_served hfree'
  have hentered : (c.settleLines.enteredEnding n why) = (c.enteredEnding n why).settleLines := rfl
  have hkept : ∀ ref ∈ ((c.enteredEnding n why).ctx n).currentBank,
      ¬ ((c.enteredEnding n why).bank ref.bank).freedNow (.nozzle n) := fun ref href => by
    rw [c.enteredEnding_currentBank n why] at href
    rw [bank_of_without (d := c.enteredEnding n why) rfl ref.bank]
    exact hbank ref href
  obtain ⟨hasked, hports⟩ := (c.enteredEnding n why).bankAsked_settleLines n hkept
  have hctx : ((c.enteredEnding n why).bankAsked n).ctx n = (c.ctx n).entering why := by
    obtain ⟨r, hr⟩ := (c.enteredEnding n why).bankAsked_frame n
    rw [hr]
    simp [ctx, enteredEnding]
  have hsettled : { (c.enteredEnding n why).bankAsked n with ports := (c.enteredEnding n why).settleLines.ports } =
      ((c.enteredEnding n why).bankAsked n).settleLines := by
    rw [settleLines_eq ((c.enteredEnding n why).bankAsked n), settleLines, settleLines]
    simp only [hports]
  have hport : ((c.enteredEnding n why).bankAsked n).port (portOfNozzle n) = c.port (portOfNozzle n) := by
    rw [port_of_ports hports]
    rfl
  have hsame : (c.settleLines.beginEnding n why).ctl.settleLines = (c.beginEnding n why).ctl.settleLines := by
    rw [c.beginEnding_eq n why, c.settleLines.beginEnding_eq n why, hentered, hasked, hsettled]
    refine endingOrders_settleLines _ n (by rw [hctx]; rfl) ?_
    rw [hport, hctx]
    exact hnozzle
  rwa [hsame] at hends

end Controller
end Sys2Proof.Machine
end

section
/-! R110: an entry into ENDING that an event of a step causes. -/

namespace Sys2Proof.Machine
namespace Controller

/-- The events that wait are no matter of a release. -/
theorem bankAsked_owed (c : Controller) (n : Nozzle) (l : List Event) :
    ({ c with owed := l }).bankAsked n = { c.bankAsked n with owed := l } := by
  have hctx : ({ c with owed := l } : Controller).ctx n = c.ctx n := rfl
  unfold bankAsked
  rw [hctx]
  cases (c.ctx n).currentBank with
  | none => rfl
  | some ref =>
    simp only [Option.elim_some]
    by_cases hnow : (c.bank ref.bank).freedNow (.nozzle n)
    · rw [c.releaseBank_sends ref.bank n hnow, releaseBank_sends { c with owed := l } ref.bank n hnow]
      rfl
    · rw [c.releaseBank_notes ref.bank n hnow, releaseBank_notes { c with owed := l } ref.bank n hnow]
      rfl

/-- Nor of the orders of ENDING. -/
theorem endingOrders_owed (c : Controller) (n : Nozzle) (l : List Event) (hwanted : (c.ctx n).wanted = .closed) :
    (({ c with owed := l }).driveFlow n).ventIfShut n = { (c.driveFlow n).ventIfShut n with owed := l } := by
  by_cases hnone : (c.ctx n).flowOrder = none
  · cases hflow : (c.ctx n).flow with
    | closed =>
      rw [c.endingOrders_vent n hwanted hflow hnone, endingOrders_vent { c with owed := l } n hwanted hflow hnone]
      rfl
    | opened =>
      cases hbank : (c.ctx n).flowBank with
      | none =>
        rw [c.endingOrders_none n (.inr ⟨hflow, hbank⟩),
          endingOrders_none { c with owed := l } n (.inr ⟨hflow, hbank⟩)]
      | some b =>
        rw [c.endingOrders_shut n b hwanted hflow hnone hbank,
          endingOrders_shut { c with owed := l } n b hwanted hflow hnone hbank]
        rfl
  · rw [c.endingOrders_none n (.inl hnone), endingOrders_none { c with owed := l } n (.inl hnone)]

theorem bankAsked_entered_ctx (c : Controller) (n : Nozzle) (why : EndReason) :
    ((c.enteredEnding n why).bankAsked n).ctx n = (c.ctx n).entering why := by
  obtain ⟨r, hr⟩ := (c.enteredEnding n why).bankAsked_frame n
  rw [hr]
  simp [ctx, enteredEnding]

theorem beginEnding_owed (c : Controller) (n : Nozzle) (why : EndReason) (l : List Event) :
    ({ c with owed := l }).beginEnding n why =
      ⟨{ (c.beginEnding n why).ctl with owed := l }, (c.beginEnding n why).events⟩ := by
  have hctl : (({ c with owed := l }).beginEnding n why).ctl = { (c.beginEnding n why).ctl with owed := l } := by
    have hentered : ({ c with owed := l }).enteredEnding n why = { c.enteredEnding n why with owed := l } := rfl
    rw [beginEnding_eq, beginEnding_eq, hentered, bankAsked_owed]
    exact endingOrders_owed _ n l (by rw [c.bankAsked_entered_ctx n why]; rfl)
  have hevents : (({ c with owed := l }).beginEnding n why).events = (c.beginEnding n why).events := by
    rw [beginEnding_events, beginEnding_events]
  rw [← hctl, ← hevents]

/-- The orders of ENDING change ports, contexts and records alone. -/
theorem endingOrders_frame (c : Controller) (n : Nozzle) (hwanted : (c.ctx n).wanted = .closed) :
    ∃ ports contexts ring,
      (c.driveFlow n).ventIfShut n = { c with ports := ports, contexts := contexts, ring := ring } := by
  by_cases hnone : (c.ctx n).flowOrder = none
  · cases hflow : (c.ctx n).flow with
    | closed => exact ⟨_, _, _, c.endingOrders_vent n hwanted hflow hnone⟩
    | opened =>
      cases hbank : (c.ctx n).flowBank with
      | none => exact ⟨_, _, _, c.endingOrders_none n (.inr ⟨hflow, hbank⟩)⟩
      | some b => exact ⟨_, _, _, c.endingOrders_shut n b hwanted hflow hnone hbank⟩
  · exact ⟨_, _, _, c.endingOrders_none n (.inl hnone)⟩

/-- What an entry into ENDING leaves of the events that wait, the lists, the claim and the Scheduler. -/
theorem beginEnding_waiting (c : Controller) (n : Nozzle) (why : EndReason) :
    (c.beginEnding n why).ctl.owed = c.owed ∧
      (c.beginEnding n why).ctl.alloc.precoolList = c.alloc.precoolList.filter (fun k => k.nozzle != n) ∧
      (c.beginEnding n why).ctl.alloc.bankList = c.alloc.bankList.filter (fun k => k.nozzle != n) ∧
      (c.beginEnding n why).ctl.alloc.compressorClaim = c.alloc.compressorClaim ∧
      (c.beginEnding n why).ctl.sched = c.sched := by
  obtain ⟨r, hasked⟩ := (c.enteredEnding n why).bankAsked_frame n
  obtain ⟨ports, contexts, ring, horders⟩ :=
    ((c.enteredEnding n why).bankAsked n).endingOrders_frame n (by rw [c.bankAsked_entered_ctx n why]; rfl)
  rw [beginEnding_eq, horders, hasked]
  exact ⟨rfl, rfl, rfl, rfl, rfl⟩

/-- With nobody waiting for precool and no claim, a grant pass finds nothing to do. -/
theorem Leads.pass {c : Controller} (hlist : c.alloc.precoolList = []) (hclaim : c.alloc.compressorClaim = none) :
    Leads 1 [.grantPass false] c c :=
  Leads.skip (fun l => grantPass_calm { c with owed := l } hlist hclaim) (Leads.nil c)

/-- With nobody waiting for a bank, a grant scan finds nothing to do. -/
theorem Leads.scan {c : Controller} (hlist : c.alloc.bankList = []) : Leads 1 [.grantScan] c c :=
  Leads.skip (fun l => by simp [handle, grantScan, hlist, scanEntries]) (Leads.nil c)

/-- An entry into ENDING with nobody waiting for precool: the pass after it finds nothing to do. -/
theorem Leads.ending (c : Controller) (n : Nozzle) (why : EndReason) (hlist : c.alloc.precoolList = [])
    (hclaim : c.alloc.compressorClaim = none) :
    ∃ m, m ≤ 1 ∧ Leads m (c.beginEnding n why).events (c.beginEnding n why).ctl (c.beginEnding n why).ctl := by
  obtain ⟨-, hprecool, -, hcomp, -⟩ := c.beginEnding_waiting n why
  rw [beginEnding_events]
  split
  · exact ⟨1, le_rfl, Leads.pass (by rw [hprecool, hlist]; rfl) (by rw [hcomp, hclaim])⟩
  · exact ⟨0, Nat.zero_le 1, Leads.nil _⟩

/-- An event that a fill's end follows from. -/
theorem Leads.ends {c : Controller} {n : Nozzle} {why : EndReason} {e : Event}
    (h : ∀ l, ({ c with owed := l }).handle e = ({ c with owed := l }).beginEnding n why)
    (hlist : c.alloc.precoolList = []) (hclaim : c.alloc.compressorClaim = none) :
    ∃ m, m ≤ 2 ∧ Leads m [e] c (c.beginEnding n why).ctl := by
  obtain ⟨m, hm, hl⟩ := Leads.ending c n why hlist hclaim
  refine ⟨m + 1, by omega, Leads.cons (x := (c.beginEnding n why).ctl) (told := (c.beginEnding n why).events)
    (fun l => (h l).trans (c.beginEnding_owed n why l)) ?_⟩
  rwa [List.append_nil]

end Controller
end Sys2Proof.Machine
end

-- Storage banks: the opening of a fill's bank (R39, R40, R106, R126).
section
/-! R39, R40: a bank's OPEN order confirmed, and its expiry, for the fill that holds the bank. -/

namespace Sys2Proof.Machine

/-! ## Confirmations of a bank's valve (R38) -/

/-- R38: a confirmation that answers an OPEN order in flight. -/
theorem Controller.takeValveConfirm_opened (c : Controller) (b : BankId) (o : ValveOrder)
    (hb : b.val < c.alloc.bankCount) (ho : (c.bank b).order = some o) (hopen : o.action = .opened) :
    c.takeValveConfirm o.tag (BitVec.ofNat 8 (b.val + 1)) (c.bank b).generation 0x01 = c.openConfirmed b o.route := by
  have hmatches : c.valveMatches b o.tag (c.bank b).generation 0x01 = true := by
    simp [Controller.valveMatches, ho, hopen, Valve.code]
  simp only [Controller.takeValveConfirm, c.bankNamed_of _ b (bankNumber_toNat b) hb, ho, hmatches, hopen, if_true]

/-- R39: the block that holds the bank is told. -/
theorem Controller.openConfirmed_told (c : Controller) (b : BankId) (route : Holder) (n : Nozzle)
    (hpending : (c.bank b).releasePending = false) (hholder : (c.bank b).holder = some (.nozzle n)) :
    c.openConfirmed b route = ⟨c.setBank b { c.bank b with order := none }, [.valveOpened n b]⟩ := by
  simp [Controller.openConfirmed, hpending, hholder, toldValveOpen, Controller.updBank]

/-- A VALVE_CONFIRM at the head of the plant's queue, with what follows from it. -/
theorem exec_valveConfirm (s : State) (tag bank generation state : Octet) (rest : List Telegram) (x d : Controller)
    (n : Nat) (es : List Event) (h : s.ctl.atRest)
    (ha : s.ctl.told plantPort ⟨0x40, tag, [bank, generation, state]⟩ rest)
    (hact : (s.ctl.taken plantPort rest).takeValveConfirm tag bank generation state = ⟨x, es⟩) (hx : x.owed = [])
    (hl : Controller.Leads n es x d) (hn : n ≤ 4096) (hd : d.owed = []) :
    exec (.valveConfirm plantPort tag bank generation state) s = .next (s.withCtl d.settleLines) := by
  simp only [exec, execValveConfirm, State.report, telegramOf, State.does]
  rw [s.ctl.perform_told x d _ rest _ n es h ha rfl rfl hact hx hl hn hd]

/-- A bank's OPEN order settled by the confirmation at the head of the plant's queue. -/
def Controller.bankOpened (c : Controller) (b : BankId) (rest : List Telegram) : Controller :=
  (c.taken plantPort rest).setBank b { c.bank b with order := none }

/-- Of an OPEN order that a nozzle's bank waits for: the nozzle is told, and what it then does is `f`. -/
theorem exec_bankOpens (s : State) (b : BankId) (n : Nozzle) (o : ValveOrder) (rest : List Telegram)
    (f : Controller → Controller)
    (h : s.ctl.atRest) (hb : b.val < s.ctl.alloc.bankCount) (ho : (s.ctl.bank b).order = some o)
    (hopen : o.action = .opened) (hpending : (s.ctl.bank b).releasePending = false)
    (hholder : (s.ctl.bank b).holder = some (.nozzle n))
    (ha : s.ctl.told plantPort ⟨0x40, o.tag, [BitVec.ofNat 8 (b.val + 1), (s.ctl.bank b).generation, 0x01]⟩ rest)
    (hopened : ∀ l, ({ s.ctl.bankOpened b rest with owed := l }).valveOpened n b = f { s.ctl.bankOpened b rest with owed := l })
    (hf : ∀ c l, f { c with owed := l } = { f c with owed := l }) :
    exec (.valveConfirm plantPort o.tag (BitVec.ofNat 8 (b.val + 1)) (s.ctl.bank b).generation 0x01) s =
      .next (s.withCtl (f (s.ctl.bankOpened b rest)).settleLines) := by
  have hd : (f (s.ctl.bankOpened b rest)).owed = [] := by
    have howed : s.ctl.bankOpened b rest = { s.ctl.bankOpened b rest with owed := [] } := by
      rw [← h.2.1]
      rfl
    rw [howed, hf]
  refine exec_valveConfirm s _ _ _ _ rest _ _ 1 _ h ha
    (((s.ctl.taken plantPort rest).takeValveConfirm_opened b o hb ho hopen).trans
      ((s.ctl.taken plantPort rest).openConfirmed_told b o.route n hpending hholder)) h.2.1 ?_ (by omega) hd
  exact Controller.Leads.cons (told := []) (fun l => congrArg Eff.of ((hopened l).trans (hf _ l)))
    (Controller.Leads.nil _)

/-! ## The bank of a fill is open (R106, R126) -/

/-- R106: a fill whose flow start time and ambient band are written, its pulse delay running. -/
def Controller.delaying (c : Controller) (n : Nozzle) (a : Authorisation) : Controller :=
  { c with
    ring := { c.ring with records := changed a.seq (fun r =>
      { r with flowStart := some c.store.clock, band := some c.thermal.band }) c.ring.records }
    contexts := c.contexts.set n { c.ctx n with
      band := some c.thermal.band, phase := some .delay
      leakTimer := some (c.store.settings.ramp.pulseDelay * 100) } }

/-- R106: the same with a delay of 0: its pulse begun, and the FLOW OPEN handed. -/
def Controller.pulsing (c : Controller) (n : Nozzle) (a : Authorisation) (ref : BankRef) : Controller :=
  { c.setPort (portOfNozzle n) ((c.port (portOfNozzle n)).ordered 0x52 [0x01, ref.generation]) with
    ring := { c.ring with records := changed a.seq (fun r =>
      { r with flowStart := some c.store.clock, band := some c.thermal.band }) c.ring.records }
    contexts := c.contexts.set n { c.ctx n with
      band := some c.thermal.band, phase := some .pulse, leakTimer := none, wanted := .opened
      flowOrder := some ⟨.opened, (c.port (portOfNozzle n)).tagCounter, ref.generation, some c.orderTime⟩ } }

/-- R126, R128: a fill whose switch of banks is over. -/
def Controller.switched (c : Controller) (n : Nozzle) : Controller :=
  { c with
    contexts := c.contexts.set n
      ({ c.ctx n with lagCount := 0 }.withoutCause .bankSwitch (c.store.settings.ramp.step * 100)) }

/-- R106: with a pulse delay the delay starts. -/
theorem Controller.valveOpened_delays (c : Controller) (b : BankId) (n : Nozzle) (ref : BankRef) (a : Authorisation)
    (hstate : (c.ctx n).state = .leakCheck) (hphase : (c.ctx n).phase = some .opening)
    (hbank : (c.ctx n).currentBank = some ref) (href : ref.bank = b) (hauth : (c.ctx n).auth = some a)
    (hdelay : 1 ≤ c.store.settings.ramp.pulseDelay) :
    c.valveOpened n b = c.delaying n a := by
  have hnot : c.store.settings.ramp.pulseDelay ≠ 0 := by omega
  have hdraws : (c.ctx n).draws b = true := by simp [Context.draws, hbank, href]
  refine (if_neg (by simp [hdraws])).trans ((if_pos ⟨hstate, hphase⟩).trans ((if_neg hnot).trans ?_))
  rw [Controller.updRecordOf_eq, c.recordsWith_auth n a _ hauth]
  rfl

/-- R105: a context that calls for another flow hands its FLOW order. -/
theorem Controller.driveFlow_set (c : Controller) (n : Nozzle) (x : Context) (b : BankRef) (hdiff : x.wanted ≠ x.flow)
    (hnone : x.flowOrder = none) (hbank : x.flowBank = some b) :
    ({ c with contexts := c.contexts.set n x }).driveFlow n =
      { c.setPort (portOfNozzle n) ((c.port (portOfNozzle n)).ordered 0x52 (flowBody x.wanted b.generation)) with
        contexts := c.contexts.set n { x with
          flowOrder := some ⟨x.wanted, (c.port (portOfNozzle n)).tagCounter, b.generation, some c.orderTime⟩ } } := by
  have hctx : ({ c with contexts := c.contexts.set n x } : Controller).ctx n = x := by simp [Controller.ctx]
  rw [Controller.driveFlow_sends _ n x.wanted b (by rw [hctx]) (by rw [hctx]; simp [hdiff, hnone]) (by rw [hctx, hbank]),
    hctx, Vector.set_set]
  rfl

/-- R106: with a delay of 0 the pulse starts at once, and the FLOW OPEN is handed. -/
theorem Controller.valveOpened_pulses (c : Controller) (b : BankId) (n : Nozzle) (ref : BankRef) (a : Authorisation)
    (hstate : (c.ctx n).state = .leakCheck) (hphase : (c.ctx n).phase = some .opening)
    (hbank : (c.ctx n).currentBank = some ref) (href : ref.bank = b) (hauth : (c.ctx n).auth = some a)
    (hdelay : c.store.settings.ramp.pulseDelay = 0) (hflow : (c.ctx n).flow = .closed)
    (hnone : (c.ctx n).flowOrder = none) :
    c.valveOpened n b = c.pulsing n a ref := by
  have hdraws : (c.ctx n).draws b = true := by simp [Context.draws, hbank, href]
  refine (if_neg (by simp [hdraws])).trans ((if_pos ⟨hstate, hphase⟩).trans ((if_pos hdelay).trans ?_))
  rw [Controller.updRecordOf_eq, c.recordsWith_auth n a _ hauth, Controller.startPulse, Controller.updCtx_updCtx]
  refine (Controller.driveFlow_set { c with ring := { c.ring with records := changed a.seq (fun r =>
    { r with flowStart := some c.store.clock, band := some c.thermal.band }) c.ring.records } } n
      { c.ctx n with band := some c.thermal.band, phase := some .pulse, leakTimer := none, wanted := .opened } ref
      (by simp [hflow]) hnone ?_).trans rfl
  simp [Context.flowBank, hbank]

/-- R126, R128: a fill in a switch of banks loses that cause. -/
theorem Controller.valveOpened_switches (c : Controller) (b : BankId) (n : Nozzle) (ref : BankRef)
    (hbank : (c.ctx n).currentBank = some ref) (href : ref.bank = b) (hstate : (c.ctx n).state = .hold)
    (hcause : (c.ctx n).causes.bankSwitch = true) :
    c.valveOpened n b = c.switched n := by
  have hdraws : (c.ctx n).draws b = true := by simp [Context.draws, hbank, href]
  have hchecks : ¬ ((c.ctx n).state = .leakCheck ∧ (c.ctx n).phase = some .opening) := by simp [hstate]
  refine (if_neg (by simp [hdraws])).trans ((if_neg hchecks).trans ((if_pos ⟨hstate, hcause⟩).trans ?_))
  rw [Controller.removeCause_eq]
  simp [Controller.switched, Controller.setCtx, Controller.updCtx, Controller.ctx]

end Sys2Proof.Machine
end

section
/-! R40, R110: the OPEN order of a fill's bank expires. -/

namespace Sys2Proof.Machine

/-- The answer places of a controller that lags. -/
theorem Controller.Lags.free {k : Nat} {late : Late} {c d : Controller} (h : c.Lags k late d)
    (hd : ∀ q, q ≠ plantPort → (d.port q).answerPlace = false) (p : PortId) : (c.port p).answerPlace = false := by
  obtain ⟨-, ⟨base, hbase, hlags⟩, hothers⟩ := h
  by_cases hp : p = plantPort
  · subst hp
    rw [hbase]
    cases late <;> exact hlags.free
  · rw [← PortRec.pump_answerPlace, hothers p hp]
    exact hd p hp

/-- R37: a CLOSE handed for a bank, in a queue that lags. -/
theorem Controller.Lags.closes {k : Nat} {late : Late} {c d : Controller} (h : c.Lags (k + 1) late d) (b : BankId)
    (route : Holder) (r : BankRec) :
    ((c.setPort plantPort ((c.port plantPort).ordered 0x50
      (bankValveBody b route .closed (c.bank b).generation (c.limitPressure b route .closed)))).setBank b r).Lags k late
      ((d.orders plantPort 0x50
        [BitVec.ofNat 8 (b.val + 1), route.code, 0x02, (c.bank b).generation, 0, 0, 0]).setBank b r) := by
  rw [c.closeBody b route]
  exact (h.order 0x50 _ fun _ => rfl).map (fun x => x.setBank b r) fun _ _ => rfl

/-- Two ports change in either order. -/
theorem Controller.setPort_comm (c : Controller) (p q : PortId) (r u : PortRec) (h : p ≠ q) :
    (c.setPort p r).setPort q u = (c.setPort q u).setPort p r := by
  have hports : (c.ports.set p r).set q u = (c.ports.set q u).set p r :=
    Vector.set_comm _ _ fun e => h (Fin.ext e)
  simp only [Controller.setPort, hports]

/-- R105, R106: the pulse of a fill and its FLOW OPEN, at a nozzle port that is served. -/
theorem Controller.pulsing_settled (c : Controller) (n : Nozzle) (a : Authorisation) (ref : BankRef)
    (hl : c.linesServed) (hfree : (c.port (portOfNozzle n)).answerPlace = false) (hroom : c.room (portOfNozzle n)) :
    (c.pulsing n a ref).settleLines =
      { c.orders (portOfNozzle n) 0x52 [0x01, ref.generation] with
        ring := { c.ring with records := changed a.seq (fun r =>
          { r with flowStart := some c.store.clock, band := some c.thermal.band }) c.ring.records }
        contexts := c.contexts.set n { c.ctx n with
          band := some c.thermal.band, phase := some .pulse, leakTimer := none, wanted := .opened
          flowOrder := some ⟨.opened, (c.port (portOfNozzle n)).tagCounter, ref.generation, some c.orderTime⟩ } } := by
  have hport := c.settleLines_setPort (portOfNozzle n)
    ((c.port (portOfNozzle n)).ordered 0x52 [0x01, ref.generation]) hl
  rw [c.pump_ordered _ _ _ (hl _) hfree hroom, c.orders_eq, port_setPort_self, ← c.orders_eq] at hport
  rw [← hport]
  rfl

/-- R40: an OPEN order that expires hands the CLOSE, and the holder is told. -/
theorem Controller.openTimedOut_told (c : Controller) (b : BankId) (route who : Holder)
    (hpending : (c.bank b).releasePending = false) (hholder : (c.bank b).holder = some who) :
    c.openTimedOut b route =
      ⟨(c.setPort plantPort ((c.port plantPort).ordered 0x50
        (bankValveBody b route .closed (c.bank b).generation (c.limitPressure b route .closed)))).setBank b
        { c.bank b with
          order := some ⟨.closed, (c.port plantPort).tagCounter, route, (c.bank b).generation, some c.orderTime⟩ },
        [toldValveFailed who b]⟩ := by
  have hsame : (c.alloc.banks[b.val]).releasePending = false := hpending
  rw [openTimedOut, hpending, hholder, handValve_eq]
  simp only [closeBody]
  congr 1
  simp [Controller.updBank, Controller.setBank, Controller.bank, Controller.port, Controller.setPort,
    Controller.orderTime]
  rw [hsame]

/-- R40: the expiry of a bank's OPEN order, with what follows from it. -/
theorem exec_valveOpenTimeout (s : State) (b : BankId) (o : ValveOrder) (x d : Controller) (n : Nat) (es : List Event)
    (h : s.ctl.atRest) (ho : (s.ctl.bank b).order = some o) (hopen : o.action = .opened) (htimer : o.timer.isSome = true)
    (hact : s.ctl.openTimedOut b o.route = ⟨x, es⟩) (hx : x.owed = []) (hl : Controller.Leads n es x d) (hn : n ≤ 4096)
    (hd : d.owed = []) : exec (.valveOpenTimeout b) s = .next (s.withCtl d.settleLines) := by
  have hexpired : s.ctl.valveTimedOut b .opened = ⟨x, es⟩ := by
    simp only [Controller.valveTimedOut, ho, hopen, htimer, and_self, if_true, hact]
  simp only [exec, execValveOpenTimeout, State.does]
  rw [s.ctl.perform_leads x d _ n es h hexpired hx hl hn hd]

/-- R106, R126: the fill whose bank did not open ends. -/
theorem Controller.valveFailed_ends (c : Controller) (b : BankId) (n : Nozzle) (ref : BankRef)
    (hbank : (c.ctx n).currentBank = some ref) (href : ref.bank = b)
    (hwaits : (c.ctx n).state = .leakCheck ∧ (c.ctx n).phase = some .opening ∨
      (c.ctx n).state = .hold ∧ (c.ctx n).causes.bankSwitch = true) :
    c.valveFailed n b = c.beginEnding n .valveTimeout :=
  if_pos ⟨by simp [Context.draws, hbank, href], hwaits⟩

/-- R40, R110: the fill ends with the CLOSE handed. -/
theorem exec_bankFails (s : State) (b : BankId) (n : Nozzle) (o : ValveOrder) (ref : BankRef) (h : s.ctl.calm)
    (hroom : s.ctl.room plantPort) (ho : (s.ctl.bank b).order = some o) (hopen : o.action = .opened)
    (htimer : o.timer.isSome = true) (hpending : (s.ctl.bank b).releasePending = false)
    (hholder : (s.ctl.bank b).holder = some (.nozzle n)) (hbank : (s.ctl.ctx n).currentBank = some ref)
    (href : ref.bank = b) (hwaits : (s.ctl.ctx n).state = .leakCheck ∧ (s.ctl.ctx n).phase = some .opening ∨
      (s.ctl.ctx n).state = .hold ∧ (s.ctl.ctx n).causes.bankSwitch = true) :
    ∃ t, exec (.valveOpenTimeout b) s = .next t ∧
      ((s.ctl.orders plantPort 0x50
        [BitVec.ofNat 8 (b.val + 1), o.route.code, 0x02, (s.ctl.bank b).generation, 0, 0, 0]).setBank b
          { s.ctl.bank b with
            order := some ⟨.closed, (s.ctl.port plantPort).tagCounter, o.route, (s.ctl.bank b).generation,
              some s.ctl.orderTime⟩ }).endsFill t.ctl n .valveTimeout := by
  obtain ⟨hrest, hlist, -, hclaim⟩ := h
  have hroom1 : s.ctl.roomFor plantPort 1 := fun hup => ⟨by have := (hroom hup).1; omega, (hroom hup).2⟩
  have htold := s.ctl.openTimedOut_told b o.route (.nozzle n) hpending hholder
  have hlags := (Controller.atRest.lags hrest (k := 0 + 1) hroom1).closes b o.route
    { s.ctl.bank b with
      order := some ⟨.closed, (s.ctl.port plantPort).tagCounter, o.route, (s.ctl.bank b).generation,
        some s.ctl.orderTime⟩ }
  generalize hx : (s.ctl.setPort plantPort ((s.ctl.port plantPort).ordered 0x50 (bankValveBody b o.route .closed
    (s.ctl.bank b).generation (s.ctl.limitPressure b o.route .closed)))).setBank b _ = x at htold hlags
  have hctx : x.ctx n = s.ctl.ctx n := by rw [← hx]; rfl
  have halloc : x.alloc.precoolList = [] ∧ x.alloc.compressorClaim = none := by rw [← hx]; exact ⟨hlist, hclaim⟩
  obtain ⟨m, hm, hl⟩ := Controller.Leads.ends (c := x) (n := n) (why := .valveTimeout) (e := .valveFailed n b)
    (fun l => Controller.valveFailed_ends { x with owed := l } b n ref (by rw [← hbank, ← hctx]; rfl) href
      (by rw [← hctx] at hwaits; exact hwaits)) halloc.1 halloc.2
  obtain ⟨howed, -⟩ := x.beginEnding_waiting n .valveTimeout
  have hnone : x.owed = [] := by rw [← hx]; exact hrest.2.1
  refine ⟨_, exec_valveOpenTimeout s b o x _ m _ hrest ho hopen htimer htold hnone hl (by omega) (howed.trans hnone), ?_⟩
  have hends := x.beginEnding_ends_unserved n .valveTimeout
    (hlags.free fun q hq => by
      rw [show (Controller.setBank _ b _).port q = (s.ctl.orders plantPort 0x50 _).port q from rfl,
        Controller.orders_eq, Controller.port_setPort_ne _ _ hq]
      exact hrest.2.2.2 q)
    (fun r hr => by
      rw [hctx, hbank] at hr
      cases hr
      rw [← hx, href, Controller.bank_setBank_self]
      exact fun hfreed => by cases hfreed.2.1)
    (.inl (by
      rw [← hx, show (Controller.setBank _ b _).port (portOfNozzle n) = (s.ctl.setPort plantPort _).port
        (portOfNozzle n) from rfl, Controller.port_setPort_ne _ _ (portOfNozzle_ne_plant n)]
      exact hrest.2.2.1 _))
  rwa [hlags.settled] at hends

end Sys2Proof.Machine

open Sys2Proof Sys2Proof.Machine in
/-- Settles O39: the confirmation reaches the fill that holds the bank, in its leak check and in a switch of banks; the
expiry hands the CLOSE before the fill ends. -/
theorem bankOpensForAFill : Obligations.bank_opens_for_a_fill := by
  unfold Obligations.bank_opens_for_a_fill
  refine ⟨fun s b n o ref a rest h hb ho hopen hpending hholder hstate hphase hbank href hauth hdelay => ?_,
    fun s b n o ref rest h => ?_⟩
  · intro c ha
    have hserved := (Controller.atRest.taken h rest).2.2.1
    rw [exec_bankOpens s b n o rest (fun d => d.delaying n a) h hb ho hopen hpending hholder ha
      (fun l => Controller.valveOpened_delays { s.ctl.bankOpened b rest with owed := l } b n ref a hstate hphase hbank href
        hauth hdelay) fun _ _ => rfl]
    exact congrArg (fun d => Host.Outcome.next (s.withCtl d)) (Controller.settleLines_of_served _ hserved)
  · intro c x hb ho hopen hpending hholder hbank href opens
    refine ⟨fun ha hstate hcause => ?_, fun ha hstate hphase hdelay hflow hnone hroom a hauth => ?_,
      fun htimer hcalm hroom hwaits => ?_⟩
    · have hserved := (Controller.atRest.taken h rest).2.2.1
      rw [exec_bankOpens s b n o rest (fun d => d.switched n) h hb ho hopen hpending hholder ha
        (fun l => Controller.valveOpened_switches { s.ctl.bankOpened b rest with owed := l } b n ref hbank href hstate
          hcause) fun _ _ => rfl]
      exact congrArg (fun d => Host.Outcome.next (s.withCtl d)) (Controller.settleLines_of_served _ hserved)
    · have hserved := (Controller.atRest.taken h rest)
      rw [exec_bankOpens s b n o rest (fun d => d.pulsing n a ref) h hb ho hopen hpending hholder ha
        (fun l => Controller.valveOpened_pulses { s.ctl.bankOpened b rest with owed := l } b n ref a hstate hphase hbank
          href hauth hdelay hflow hnone) fun _ _ => rfl]
      have hport : (s.ctl.bankOpened b rest).port (portOfNozzle n) = s.ctl.port (portOfNozzle n) :=
        Controller.port_setPort_ne _ _ (portOfNozzle_ne_plant n)
      have horders : (s.ctl.bankOpened b rest).orders (portOfNozzle n) 0x52 [0x01, ref.generation] =
          ((s.ctl.setBank b { s.ctl.bank b with order := none }).orders (portOfNozzle n) 0x52
            [0x01, ref.generation]).taken plantPort rest := by
        have hplant : portOfNozzle n ≠ plantPort := portOfNozzle_ne_plant n
        rw [Controller.orders_eq, Controller.orders_eq, hport, Controller.taken,
          Controller.port_setPort_ne _ _ hplant.symm]
        exact Controller.setPort_comm (s.ctl.setBank b _) _ _ _ _ hplant.symm
      have hsettled := Controller.pulsing_settled (s.ctl.bankOpened b rest) n a ref hserved.2.2.1
        (by rw [hport]; exact h.2.2.2 _) (by rw [Controller.room, hport]; exact hroom)
      rw [horders, hport] at hsettled
      exact congrArg (fun d => Host.Outcome.next (s.withCtl d)) hsettled
    · exact exec_bankFails s b n o ref hcalm hroom ho hopen htimer hpending hholder hbank href hwaits
end

-- Storage banks: grant scans and bank grants (R36, R45, R56, R103, R126).
section
/-! R56: the bank that a grant scan chooses, and the grants of a scan. -/

namespace Sys2Proof.Machine
namespace Controller

/-- R56: a scan chooses none only where no configured IDLE bank qualifies. -/
theorem chooseBank_isSome (c : Controller) (k : BankClaim) (b : BankId) (hb : b.val < c.alloc.bankCount)
    (hidle : (c.bank b).state = .idle) (hq : qualifies (c.bank b) k = true) : ∃ d, c.chooseBank k = some d := by
  have key : ∀ (l : List BankId) (best : Option BankId), (l ≠ [] ∨ best ≠ none) →
      ∃ d, l.foldl (fun best b => match best with
        | some x => if betterBank c b x then some b else some x
        | none => some b) best = some d := by
    intro l
    induction l with
    | nil => exact fun best h => Option.ne_none_iff_exists'.mp (h.resolve_left fun hne => hne rfl)
    | cons d l ih =>
      refine fun best _ => ih _ (.inr ?_)
      cases best with
      | none => simp
      | some x => dsimp only; split <;> simp
  refine key _ none (.inl (List.ne_nil_of_mem (a := b) ?_))
  simp [allBanks, configured, hb, hidle, hq]

/-- R56: with no configured bank IDLE, a scan chooses none. -/
theorem chooseBank_none (c : Controller) (k : BankClaim)
    (h : ∀ b : BankId, b.val < c.alloc.bankCount → (c.bank b).state = .idle → qualifies (c.bank b) k = false) :
    c.chooseBank k = none := by
  cases hk : c.chooseBank k with
  | none => rfl
  | some b =>
    obtain ⟨hconf, hidle, hq⟩ := chooseBank_some hk
    have := h b (by simpa [configured] using hconf) hidle
    simp [hq] at this

/-- R56: the only configured bank that is IDLE is chosen for an entry it qualifies for. -/
theorem chooseBank_only (c : Controller) (k : BankClaim) (b : BankId) (hb : b.val < c.alloc.bankCount)
    (hidle : (c.bank b).state = .idle) (hq : qualifies (c.bank b) k = true)
    (honly : ∀ d : BankId, d.val < c.alloc.bankCount → d ≠ b → (c.bank d).state ≠ .idle) :
    c.chooseBank k = some b := by
  obtain ⟨d, hd⟩ := c.chooseBank_isSome k b hb hidle hq
  obtain ⟨hconf, hdle, -⟩ := chooseBank_some hd
  have hdb : d = b := Classical.byContradiction fun hne => honly d (by simpa [configured] using hconf) hne hdle
  rw [hd, hdb]

/-- R56: entries that no bank is chosen for are passed over. -/
theorem scanEntries_skip (c : Controller) (l m : List BankClaim) (h : ∀ u ∈ l, c.chooseBank u = none) :
    c.scanEntries (l ++ m) = c.scanEntries m := by
  induction l with
  | nil => rfl
  | cons u l ih =>
    have hu : c.chooseBank u = none := h u List.mem_cons_self
    rw [List.cons_append, scanEntries, hu]
    exact ih fun v hv => h v (List.mem_cons_of_mem _ hv)

/-- R56: a scan that serves nobody. -/
theorem scanEntries_none (c : Controller) (l : List BankClaim) (h : ∀ u ∈ l, c.chooseBank u = none) :
    c.scanEntries l = .of c := by
  have := c.scanEntries_skip l [] h
  rwa [List.append_nil] at this

/-- R37: the OPEN of a nozzle's bank carries no limit. -/
theorem nozzleOpenBody (c : Controller) (b : BankId) (n : Nozzle) (generation : Octet) :
    bankValveBody b (.nozzle n) .opened generation (c.limitPressure b (.nozzle n) .opened) =
      [BitVec.ofNat 8 (b.val + 1), BitVec.ofNat 8 (n.val + 1), 0x01, generation, 0, 0, 0] := by
  have hlimit : c.limitPressure b (.nozzle n) .opened = 0 := rfl
  rw [hlimit]
  rfl

/-- R36: bank `b` granted to nozzle `n`, whose entry is off the bank list; the nozzle is not yet told. -/
def givesBank (c : Controller) (b : BankId) (n : Nozzle) : Controller :=
  { (c.setPort plantPort ((c.port plantPort).ordered 0x50
      [BitVec.ofNat 8 (b.val + 1), BitVec.ofNat 8 (n.val + 1), 0x01, (c.bank b).generation + 1, 0, 0, 0])) with
    alloc := { c.alloc with
      banks := c.alloc.banks.set b ((c.bank b).granted (.nozzle n) (c.port plantPort).tagCounter c.orderTime)
      bankList := c.alloc.bankList.filter fun k => k.nozzle != n } }

theorem grantBankToNozzle_eq (c : Controller) (b : BankId) (n : Nozzle) :
    ({ c with alloc := { c.alloc with
      bankList := c.alloc.bankList.filter fun u => u.nozzle != n } }).grantBankToNozzle b n =
      ⟨c.givesBank b n, [.bankGranted n ⟨b, (c.bank b).tier, (c.bank b).generation + 1⟩ (c.bank b).pressure]⟩ := by
  rw [grantBankToNozzle, grantBank_eq, nozzleOpenBody]
  simp only [bank_setBank_self]
  rfl

/-- What the grant of bank `b` to nozzle `n` of `c` changes besides the plant port. -/
def holdingBank (x c : Controller) (b : BankId) (n : Nozzle) (tag : Octet) : Controller :=
  { x with
    alloc := { c.alloc with
      banks := c.alloc.banks.set b ((c.bank b).granted (.nozzle n) tag c.orderTime)
      bankList := c.alloc.bankList.filter fun k => k.nozzle != n }
    contexts := c.contexts.set n (if (c.ctx n).state = .waitResources then
        ((c.ctx n).enterLeakCheck ⟨b, (c.bank b).tier, (c.bank b).generation + 1⟩)
      else { c.ctx n with currentBank := some ⟨b, (c.bank b).tier, (c.bank b).generation + 1⟩ })
    meters := if (c.ctx n).state = .waitResources then
        c.meters.set n { c.meter n with metering := true, implausible := 0 }
      else c.meters
    ring := { c.ring with records := c.recordsWith n fun q =>
      { q with segments := q.segments ++ [⟨b, (c.bank b).tier, (c.bank b).pressure, none, 0⟩] } } }

theorem grants_eq (c : Controller) (b : BankId) (n : Nozzle) :
    c.grants b n = (c.orders plantPort 0x50
      [BitVec.ofNat 8 (b.val + 1), BitVec.ofNat 8 (n.val + 1), 0x01, (c.bank b).generation + 1, 0, 0, 0]).holdingBank
        c b n (c.port plantPort).tagCounter := by
  dsimp only [grants, holdingBank]
  congr 1
  unfold recordsWith
  cases (c.ctx n).auth <;> rfl

/-- R103, R126: the nozzle that waits for the bank is told of its grant. -/
theorem bankGranted_holds (c : Controller) (b : BankId) (n : Nozzle) (hnone : (c.ctx n).currentBank = none)
    (hwaits : (c.ctx n).state = .waitResources ∨ (c.ctx n).state = .hold ∧ (c.ctx n).causes.bankSwitch = true) :
    (c.givesBank b n).bankGranted n ⟨b, (c.bank b).tier, (c.bank b).generation + 1⟩ (c.bank b).pressure =
      .of ((c.givesBank b n).holdingBank c b n (c.port plantPort).tagCounter) := by
  have hctx : (c.givesBank b n).ctx n = c.ctx n := rfl
  unfold bankGranted
  rw [hctx]
  rcases hwaits with hstate | ⟨hstate, hcause⟩
  · refine (if_pos ⟨hstate, hnone⟩).trans (congrArg Eff.of ?_)
    rw [openSegment, updRecordOf_eq, recordsWith, ctx_updCtx_self, hctx, holdingBank, if_pos hstate, if_pos hstate]
    rfl
  · have hother : ¬ (c.ctx n).state = .waitResources := by simp [hstate]
    refine (if_neg fun h => hother h.1).trans ((if_pos ⟨hstate, hcause, hnone⟩).trans (congrArg Eff.of ?_))
    rw [openSegment, updRecordOf_eq, recordsWith, ctx_updCtx_self, hctx, holdingBank, if_neg hother, if_neg hother]
    rfl

/-- The image of a bank's grant. -/
theorem Lags.grants {k : Nat} {late : Late} {c d : Controller} (h : c.Lags (k + 1) late d) (b : BankId) (n : Nozzle) :
    ((c.givesBank b n).holdingBank c b n (c.port plantPort).tagCounter).Lags k late (d.grants b n) := by
  have horder := (h.order 0x50 [BitVec.ofNat 8 (b.val + 1), BitVec.ofNat 8 (n.val + 1), 0x01,
    (d.bank b).generation + 1, 0, 0, 0] fun _ => rfl).map
      (fun x => x.holdingBank d b n (d.port plantPort).tagCounter) fun _ _ => rfl
  rw [grants_eq, h.tagCounter]
  have hsame : (c.givesBank b n).holdingBank c b n (d.port plantPort).tagCounter = (c.setPort plantPort
      ((c.port plantPort).ordered 0x50 [BitVec.ofNat 8 (b.val + 1), BitVec.ofNat 8 (n.val + 1), 0x01,
        (d.bank b).generation + 1, 0, 0, 0])).holdingBank d b n (d.port plantPort).tagCounter := by
    rw [h.rest]
    rfl
  rw [hsame]
  exact horder

end Controller
end Sys2Proof.Machine
end

section
/-! R45, R56: RESTORE_BANK and the scan after it. -/

namespace Sys2Proof.Machine
namespace Controller

/-- R56: a scan that passes over the first entries, grants a bank to the next, and none to the others. -/
theorem grantScan_gives (c : Controller) {b : BankId} {k : BankClaim} {l m : List BankClaim}
    (hlist : c.alloc.bankList = l ++ k :: m) (hskip : ∀ u ∈ l, c.chooseBank u = none)
    (hchosen : c.chooseBank k = some b) (hrest : ∀ u ∈ m, (c.givesBank b k.nozzle).chooseBank u = none) :
    c.grantScan = ⟨c.givesBank b k.nozzle,
      [.bankGranted k.nozzle ⟨b, (c.bank b).tier, (c.bank b).generation + 1⟩ (c.bank b).pressure]⟩ := by
  rw [grantScan, hlist, c.scanEntries_skip l _ hskip, scanEntries, hchosen]
  dsimp only
  rw [grantBankToNozzle_eq, Eff.andThen, scanEntries_none _ m hrest]
  rfl

/-- R56, R103, R126: such a scan, where the nozzle waits for its bank. -/
theorem Leads.grants {c : Controller} {b : BankId} {k : BankClaim} {l m : List BankClaim}
    (hlist : c.alloc.bankList = l ++ k :: m) (hskip : ∀ u ∈ l, c.chooseBank u = none)
    (hchosen : c.chooseBank k = some b) (hrest : ∀ u ∈ m, (c.givesBank b k.nozzle).chooseBank u = none)
    (hnone : (c.ctx k.nozzle).currentBank = none)
    (hwaits : (c.ctx k.nozzle).state = .waitResources ∨
      (c.ctx k.nozzle).state = .hold ∧ (c.ctx k.nozzle).causes.bankSwitch = true) :
    Leads 2 [.grantScan] c
      ((c.givesBank b k.nozzle).holdingBank c b k.nozzle (c.port plantPort).tagCounter) := by
  refine Leads.cons (x := c.givesBank b k.nozzle)
    (told := [.bankGranted k.nozzle ⟨b, (c.bank b).tier, (c.bank b).generation + 1⟩ (c.bank b).pressure]) (fun v => grantScan_gives { c with owed := v } hlist hskip hchosen hrest) ?_
  exact Leads.cons (x := (c.givesBank b k.nozzle).holdingBank c b k.nozzle (c.port plantPort).tagCounter) (told := [])
    (fun v => bankGranted_holds { c with owed := v } b k.nozzle hnone hwaits) (Leads.nil _)

end Controller

/-- R45: a RESTORE_BANK that is refused. -/
theorem exec_restoreBank_refused (s : State) (tag bank : Octet) (rest : List Telegram) (why : Result)
    (h : s.ctl.atRest) (ha : s.ctl.asked plantPort ⟨0x11, tag, [bank]⟩ rest)
    (hcarry : ∀ c : Controller, c.alloc = s.ctl.alloc →
      c.carryRestore ⟨0x11, tag, [bank]⟩ bank = c.refuse ⟨0x11, tag, [bank]⟩ why) :
    exec (.restoreBank plantPort tag bank) s =
      .next (s.withCtl (s.ctl.answered plantPort rest ⟨0x91, tag, [why.code]⟩)) := by
  simp only [exec, execRestoreBank, State.request, telegramOf, State.does]
  rw [s.ctl.perform_request s.ctl plantPort _ rest _ why [] h ha rfl rfl rfl h.2.1
    ((hcarry (s.ctl.carrying plantPort rest) rfl).trans (Controller.refuse_eq _ _ why (by simp)))]
  rfl

/-- R45: the controller that an ISOLATED bank has been restored in. -/
def Controller.restored (c : Controller) (b : BankId) : Controller := c.setBank b { c.bank b with state := .idle }

/-- R56: of a bank restored with no other IDLE, the scan serves no entry it does not qualify for. -/
theorem Controller.restored_passes (c : Controller) (b : BankId) (u : BankClaim)
    (hothers : ∀ d : BankId, d.val < c.alloc.bankCount → d ≠ b → (c.bank d).state ≠ .idle)
    (hq : qualifies (c.bank b) u = false) : (c.restored b).chooseBank u = none := by
  refine Controller.chooseBank_none _ u fun d hd hidle => ?_
  by_cases hdb : d = b
  · subst hdb
    rw [Controller.restored, Controller.bank_setBank_self]
    exact hq
  · rw [Controller.restored, Controller.bank_setBank_ne _ _ hdb] at hidle
    exact absurd hidle (hothers d hd hdb)

/-- R56: with the only IDLE bank granted, no bank is left to serve. -/
theorem Controller.givesBank_last (c : Controller) (b : BankId) (n : Nozzle) (u : BankClaim)
    (hothers : ∀ d : BankId, d.val < c.alloc.bankCount → d ≠ b → (c.bank d).state ≠ .idle) :
    (c.givesBank b n).chooseBank u = none := by
  refine Controller.chooseBank_none _ u fun d hd hidle => ?_
  by_cases hdb : d = b
  · subst hdb
    simp [Controller.givesBank, Controller.bank, BankRec.granted] at hidle
  · have hkept : (c.givesBank b n).bank d = c.bank d := by
      have hne : b.val ≠ d.val := fun e => hdb (Fin.ext e.symm)
      simp [Controller.givesBank, Controller.bank, hne]
    rw [hkept] at hidle
    exact absurd hidle (hothers d hd hdb)

/-- R45: a RESTORE_BANK of an ISOLATED bank, with what its grant scan causes. -/
theorem exec_restoreBank (s : State) (tag bank : Octet) (b : BankId) (rest : List Telegram) (x d : Controller) (k n : Nat)
    (h : s.ctl.atRest) (ha : s.ctl.asked plantPort ⟨0x11, tag, [bank]⟩ rest) (hbank : bank.toNat = b.val + 1)
    (hb : b.val < s.ctl.alloc.bankCount) (hstate : (s.ctl.bank b).state = .isolated)
    (hl : Controller.Leads n [.grantScan] ((s.ctl.restored b).placed rest ⟨0x91, tag, [0x00]⟩) x) (hn : n ≤ 4096)
    (hlags : ((s.ctl.restored b).placed rest ⟨0x91, tag, [0x00]⟩).Lags k (some (rest, ⟨0x91, tag, [0x00]⟩))
      (s.ctl.restored b) → x.Lags 0 (some (rest, ⟨0x91, tag, [0x00]⟩)) d)
    (hroom : s.ctl.roomFor plantPort (k + 1)) (hx : x.owed = []) :
    exec (.restoreBank plantPort tag bank) s =
      .next (s.withCtl (d.answered plantPort rest ⟨0x91, tag, [0x00]⟩)) := by
  have hcarry : (s.ctl.carrying plantPort rest).carryRestore ⟨0x11, tag, [bank]⟩ bank =
      ⟨⟨(s.ctl.restored b).carrying plantPort rest, [.grantScan]⟩, .ok, []⟩ := by
    rw [Controller.carryRestore, (s.ctl.carrying plantPort rest).bankNamed_of bank b hbank hb]
    exact if_pos hstate
  have himage := hlags (Controller.atRest.lags_placed (c := s.ctl.restored b) h ha hroom rfl)
  simp only [exec, execRestoreBank, State.request, telegramOf, State.does]
  rw [s.ctl.perform_asked (s.ctl.restored b) x _ rest _ .ok [] n _ h ha rfl rfl rfl h.2.1 hcarry hl hn
    hx, himage.settled]
  rfl

end Sys2Proof.Machine

open Sys2Proof Sys2Proof.Machine in
/-- Settles O36: the scan after the restore passes over the entries the bank does not qualify for, and as no other bank
is IDLE it grants at most the one. -/
theorem restoreBank : Obligations.restore_bank := by
  unfold Obligations.restore_bank
  refine ⟨fun s tag bank b rest h ha => ?_, fun s tag bank b l m k rest h ha hroom => ?_⟩
  · intro c answered
    have hone : s.ctl.roomFor plantPort 1 := fun _ => ⟨ha.2.1, ha.2.2.1⟩
    refine ⟨fun hout => ?_, fun hbank hb => ⟨fun hstate => ?_, fun hstate hlist => ?_⟩⟩
    · exact exec_restoreBank_refused s tag bank rest .argument h ha fun x hx => by
        rw [Controller.carryRestore, x.bankNamed_none bank (by rw [hx]; exact hout)]
    · exact exec_restoreBank_refused s tag bank rest .state h ha fun x hx => by
        rw [Controller.carryRestore, x.bankNamed_of bank b hbank (by rw [hx]; exact hb)]
        exact if_neg (by rw [Controller.bank, hx]; exact hstate)
    · exact exec_restoreBank s tag bank b rest _ (s.ctl.restored b) 0 1 h ha hbank hb hstate
        (Controller.Leads.scan hlist) (by omega) id hone h.2.1
  · intro c hbank hb hstate hothers hlist hskip restored
    have hone : s.ctl.roomFor plantPort 1 := fun _ => ⟨ha.2.1, ha.2.2.1⟩
    have hpass : ∀ u ∈ l, (s.ctl.restored b).chooseBank u = none := fun u hu =>
      s.ctl.restored_passes b u hothers (hskip u hu)
    refine ⟨fun hm => ?_, fun hm hq hnone hwaits => ?_⟩
    · have hall : s.ctl.alloc.bankList = l := by rw [show s.ctl.alloc.bankList = l ++ m from hlist, hm, List.append_nil]
      refine exec_restoreBank s tag bank b rest _ (s.ctl.restored b) 0 1 h ha hbank hb hstate
        (Controller.Leads.skip (fun v => ?_) (Controller.Leads.nil _)) (by omega) id hone h.2.1
      exact Controller.scanEntries_none _ _ (hall ▸ hpass)
    · obtain ⟨m, rfl⟩ : ∃ m', m = k :: m' := List.head?_eq_some_iff.mp hm
      have hleft : ∀ d : BankId, d.val < s.ctl.alloc.bankCount → d ≠ b → ((s.ctl.restored b).bank d).state ≠ .idle :=
        fun d hd hdb => by
          rw [Controller.restored, Controller.bank_setBank_ne _ _ hdb]
          exact hothers d hd hdb
      have hchosen : (s.ctl.restored b).chooseBank k = some b :=
        Controller.chooseBank_only _ k b hb (by rw [Controller.restored, Controller.bank_setBank_self])
          (by rw [Controller.restored, Controller.bank_setBank_self]; exact hq) hleft
      exact exec_restoreBank s tag bank b rest _ ((s.ctl.restored b).grants b k.nozzle) 1 2 h ha hbank hb hstate
        (Controller.Leads.grants hlist hpass hchosen (fun u _ => Controller.givesBank_last _ b k.nozzle u hleft) hnone
          hwaits)
        (by omega) (fun hl => hl.grants b k.nozzle) hroom h.2.1
end

-- Storage banks: samples, start attempts and refills that end (R33, R66, R68, R69, R73).
section
/-! R68, R69, R53: a start attempt, and the grant pass after it. -/

namespace Sys2Proof.Machine
namespace Controller

/-- The events `es` of `c`, at most `m` of them with what they cause, lead to an image of `d` with `k` places free. -/
def LeadsTo (m k : Nat) (late : Late) (es : List Event) (c d : Controller) : Prop :=
  ∃ x n, n ≤ m ∧ Leads n es c x ∧ x.Lags k late d

theorem LeadsTo.nil {k : Nat} {late : Late} {c d : Controller} (h : c.Lags k late d) : LeadsTo 0 k late [] c d :=
  ⟨c, 0, le_rfl, Leads.nil c, h⟩

theorem LeadsTo.cons {m k : Nat} {late : Late} {e : Event} {es told : List Event} {c x d : Controller}
    (h : ∀ v, ({ c with owed := v }).handle e = ⟨{ x with owed := v }, told⟩)
    (hl : LeadsTo m k late (told ++ es) x d) : LeadsTo (m + 1) k late (e :: es) c d := by
  obtain ⟨y, n, hn, hleads, hlags⟩ := hl
  exact ⟨y, n + 1, by omega, Leads.cons h hleads, hlags⟩

theorem LeadsTo.skip {m k : Nat} {late : Late} {e : Event} {es : List Event} {c d : Controller}
    (h : ∀ v, ({ c with owed := v }).handle e = .of { c with owed := v }) (hl : LeadsTo m k late es c d) :
    LeadsTo (m + 1) k late (e :: es) c d := LeadsTo.cons (told := []) h hl

theorem LeadsTo.more {m m' k : Nat} {late : Late} {es : List Event} {c d : Controller} (h : LeadsTo m k late es c d)
    (hm : m ≤ m') : LeadsTo m' k late es c d := by
  obtain ⟨x, n, hn, hleads, hlags⟩ := h
  exact ⟨x, n, by omega, hleads, hlags⟩

/-- Events one after the other. -/
theorem LeadsTo.append {m m' k : Nat} {late : Late} {es es' : List Event} {c x d : Controller} {n : Nat} (h : Leads n es c x)
    (hn : n ≤ m) (h' : LeadsTo m' k late es' x d) : LeadsTo (m + m') k late (es ++ es') c d := by
  obtain ⟨y, n', hn', hleads, hlags⟩ := h'
  exact ⟨y, n + n', by omega, h.append hleads, hlags⟩

/-! ## What an image shares with what it is the image of -/

namespace Lags

variable {k : Nat} {late : Late} {c d : Controller}

theorem sched (h : c.Lags k late d) : c.sched = d.sched := by rw [h.rest]
theorem alloc (h : c.Lags k late d) : c.alloc = d.alloc := by rw [h.rest]
theorem store (h : c.Lags k late d) : c.store = d.store := by rw [h.rest]
theorem contexts (h : c.Lags k late d) : c.contexts = d.contexts := by rw [h.rest]

end Lags

/-! ## The start attempt -/

/-- Whether a start attempt finds the compressor busy. -/
def busy (c : Controller) : Prop :=
  c.sched.state ≠ .stopped ∨ c.sched.heldBank ≠ none ∨ c.sched.order ≠ none ∨ c.sched.stopPending = true

/-- The first IDLE bank of the refill queue. -/
def firstIdle (c : Controller) : Option BankId :=
  c.sched.queue.find? fun b => decide (b.val < c.alloc.bankCount) && (c.bank b).state == .idle

theorem firstIdle_some {c : Controller} {b : BankId} (h : c.firstIdle = some b) :
    b.val < c.alloc.bankCount ∧ (c.bank b).state = .idle := by
  have := List.find?_some h
  simpa using this

/-- Whether a claim of the compressor has to wait. -/
def mustWait (c : Controller) : Prop :=
  c.alloc.precoolList ≠ [] ∨ c.alloc.free < c.store.settings.precool.compressorLoad

/-- R53: the claim waiting. -/
def claimWaits (c : Controller) (b : BankId) : Controller :=
  { c with
    alloc := { c.alloc with compressorClaim := some b }
    sched := { c.sched with state := .waitCooling, refillBank := some b, claimPending := some b } }

/-- R53, R69: the claim granted, besides the plant port. -/
def claimHolds (x c : Controller) (b : BankId) (tag started : Octet) : Controller :=
  { x with
    alloc := { c.alloc with
      banks := c.alloc.banks.set b ((c.bank b).granted .compressor tag c.orderTime)
      compressorReservation := c.store.settings.precool.compressorLoad
      compressorHeld := true, compressorClaim := none }
    sched := { c.sched with
      state := .starting, refillBank := some b, heldBank := some ⟨b, false⟩, claimPending := none
      runConfirmed := false, valveOpen := false, order := some ⟨.start, some b, started, some c.orderTime⟩ } }

/-- R37: the OPEN of the bank to be refilled. -/
def refillOpenBody (c : Controller) (b : BankId) : List Octet :=
  [BitVec.ofNat 8 (b.val + 1), 0x07, 0x01, (c.bank b).generation + 1] ++
    octets 3 (c.store.settings.banks.tierMaximum.of (c.bank b).tier)

/-- That order handed. -/
def opensRefill (c : Controller) (b : BankId) : Controller :=
  c.setPort plantPort ((c.port plantPort).ordered 0x50 (c.refillOpenBody b))

/-- R53, R69: the claim granted, its OPEN and its START handed. -/
def claimed (c : Controller) (b : BankId) : Controller :=
  ((c.opensRefill b).setPort plantPort (((c.opensRefill b).port plantPort).ordered 0x51
      [0x01, BitVec.ofNat 8 (b.val + 1)])).claimHolds c b (c.port plantPort).tagCounter
        ((c.opensRefill b).port plantPort).tagCounter

theorem attempts_busy (c : Controller) (h : c.busy) : c.attempts = c := if_pos h

theorem attempts_starved (c : Controller) (h : ¬ c.busy) (hlow : ∃ p ∈ c.sched.inlet, p < 2000) :
    c.attempts = { c with sched := { c.sched with state := .starved } } := (if_neg h).trans (if_pos hlow)

theorem attempts_none (c : Controller) (h : ¬ c.busy) (hlow : ¬ ∃ p ∈ c.sched.inlet, p < 2000)
    (hfirst : c.firstIdle = none) : c.attempts = c := by
  refine (if_neg h).trans ((if_neg hlow).trans ?_)
  unfold firstIdle at hfirst
  rw [hfirst]

theorem attempts_waits (c : Controller) (b : BankId) (h : ¬ c.busy) (hlow : ¬ ∃ p ∈ c.sched.inlet, p < 2000)
    (hfirst : c.firstIdle = some b) (hwait : c.mustWait) : c.attempts = c.claimWaits b := by
  refine (if_neg h).trans ((if_neg hlow).trans ?_)
  unfold firstIdle at hfirst
  rw [hfirst]
  exact if_pos hwait

theorem attempts_claims (c : Controller) (b : BankId) (h : ¬ c.busy) (hlow : ¬ ∃ p ∈ c.sched.inlet, p < 2000)
    (hfirst : c.firstIdle = some b) (hwait : ¬ c.mustWait) :
    c.attempts = ((c.orders plantPort 0x50 (c.refillOpenBody b)).orders plantPort 0x51
      [0x01, BitVec.ofNat 8 (b.val + 1)]).claimHolds c b (c.port plantPort).tagCounter
        ((c.port plantPort).tagCounter + 1) := by
  refine (if_neg h).trans ((if_neg hlow).trans ?_)
  unfold firstIdle at hfirst
  rw [hfirst]
  exact if_neg hwait

theorem startAttempt_busy (c : Controller) (h : c.busy) : c.startAttempt = .of c := by
  refine if_pos ?_
  simpa [busy, Option.isSome_iff_ne_none] using h

theorem inletLow_iff (k : Scheduler) : k.inletLow = true ↔ ∃ p ∈ k.inlet, p < 2000 := by
  cases h : k.inlet with
  | none => simp [Scheduler.inletLow, h]
  | some p =>
    simp only [Scheduler.inletLow, h, inletMinimum, Option.mem_some_iff, exists_eq_left']
    exact decide_eq_true_iff

theorem not_busy_iff (c : Controller) : ¬ c.busy ↔ ¬ (c.sched.state ≠ .stopped ∨ c.sched.heldBank.isSome = true ∨
    c.sched.order.isSome = true ∨ c.sched.stopPending = true) := by
  simp [busy, Option.isSome_iff_ne_none]

theorem startAttempt_starved (c : Controller) (h : ¬ c.busy) (hlow : ∃ p ∈ c.sched.inlet, p < 2000) :
    c.startAttempt = .of { c with sched := { c.sched with state := .starved } } :=
  (if_neg (c.not_busy_iff.mp h)).trans (if_pos ((inletLow_iff _).mpr hlow))

theorem startAttempt_first (c : Controller) (h : ¬ c.busy) (hlow : ¬ ∃ p ∈ c.sched.inlet, p < 2000) :
    c.startAttempt = c.firstIdle.elim (.of c) fun b =>
      (((c.updSched fun s => { s with refillBank := some b }).judgeClaim b).1.actOnAnswer b
        ((c.updSched fun s => { s with refillBank := some b }).judgeClaim b).2).tell [.grantPass false] := by
  refine (if_neg (c.not_busy_iff.mp h)).trans ((if_neg fun hl => hlow ((inletLow_iff _).mp hl)).trans ?_)
  have hfind : c.firstIdle = c.sched.queue.find? fun b => c.configured b && (c.bank b).state == .idle := rfl
  rw [hfind]
  cases c.sched.queue.find? fun b => c.configured b && (c.bank b).state == .idle <;> rfl

theorem startAttempt_waits (c : Controller) (b : BankId) (h : ¬ c.busy) (hlow : ¬ ∃ p ∈ c.sched.inlet, p < 2000)
    (hheld : c.alloc.compressorHeld = false) (hfirst : c.firstIdle = some b) (hwait : c.mustWait) :
    c.startAttempt = ⟨c.claimWaits b, [.grantPass false]⟩ := by
  obtain ⟨hb, hidle⟩ := firstIdle_some hfirst
  have hnot : ¬ ((c.bank b).state ≠ .idle ∨ c.configured b = false) := by simp [hidle, configured, hb]
  have hjudged : (c.updSched fun s => { s with refillBank := some b }).judgeClaim b =
      ({ (c.updSched fun s => { s with refillBank := some b }) with
        alloc := { c.alloc with compressorClaim := some b } }, .waiting) :=
    (if_neg (ne_true_of_eq_false hheld)).trans ((if_neg hnot).trans (if_pos hwait))
  rw [c.startAttempt_first h hlow, hfirst, Option.elim_some, hjudged]
  rfl

theorem startAttempt_claims (c : Controller) (b : BankId) (h : ¬ c.busy) (hlow : ¬ ∃ p ∈ c.sched.inlet, p < 2000)
    (hheld : c.alloc.compressorHeld = false) (hfirst : c.firstIdle = some b) (hwait : ¬ c.mustWait) :
    c.startAttempt = ⟨c.claimed b, [.grantPass false]⟩ := by
  obtain ⟨hb, hidle⟩ := firstIdle_some hfirst
  have hnot : ¬ ((c.bank b).state ≠ .idle ∨ c.configured b = false) := by simp [hidle, configured, hb]
  have hjudged : (c.updSched fun s => { s with refillBank := some b }).judgeClaim b = (({
      (c.updSched fun s => { s with refillBank := some b }) with
        alloc := { c.alloc with
          compressorReservation := c.store.settings.precool.compressorLoad
          compressorHeld := true
          compressorClaim := none } }).grantBank b .compressor, .granted) :=
    (if_neg (ne_true_of_eq_false hheld)).trans ((if_neg hnot).trans (if_neg hwait))
  rw [c.startAttempt_first h hlow, hfirst, Option.elim_some, hjudged, grantBank_eq]
  dsimp only [actOnAnswer, claimGranted, handRun, Eff.tell, Eff.of]
  rw [handOrder_eq]
  rfl

theorem grantHead_none (c : Controller) (hhead : ∀ e ∈ c.alloc.precoolList.head?, c.alloc.free < e.amount) :
    c.grantHead false = none := by
  unfold grantHead
  cases hlist : c.alloc.precoolList with
  | nil => rfl
  | cons e l =>
    have hlt : c.alloc.free < e.amount := hhead e (by rw [hlist]; rfl)
    exact if_neg (by omega)

/-- R51: a pass whose head does not fit, with no claim, grants nothing. -/
theorem grantPass_idle (c : Controller) (hhead : ∀ e ∈ c.alloc.precoolList.head?, c.alloc.free < e.amount)
    (hclaim : c.alloc.compressorClaim = none) : c.grantPass false = .of c := by
  rw [grantPass, c.grantHead_none hhead]
  dsimp only
  rw [endPass, hclaim]
  cases c.alloc.precoolList <;> rfl

/-- R51, R53: a pass whose head does not fit judges a claim that waits again, which goes on waiting. -/
theorem grantPass_waits (c : Controller) (b : BankId)
    (hhead : ∀ e ∈ c.alloc.precoolList.head?, c.alloc.free < e.amount)
    (hclaim : c.alloc.compressorClaim = some b) (hheld : c.alloc.compressorHeld = false)
    (hb : b.val < c.alloc.bankCount) (hidle : (c.bank b).state = .idle) (hwait : c.mustWait) :
    c.grantPass false = .of c := by
  have hnot : ¬ ((c.bank b).state ≠ .idle ∨ c.configured b = false) := by simp [hidle, configured, hb]
  have hsame : ({ c with alloc := { c.alloc with compressorClaim := some b } } : Controller) = c := by rw [← hclaim]
  have hjudged : c.judgeClaim b = (c, .waiting) :=
    ((if_neg (ne_true_of_eq_false hheld)).trans ((if_neg hnot).trans (if_pos hwait))).trans (congrArg (·, _) hsame)
  rw [grantPass, c.grantHead_none hhead]
  dsimp only
  rw [endPass, hclaim]
  cases c.alloc.precoolList with
  | nil => dsimp only; rw [hjudged]; rfl
  | cons e l => rfl

theorem orders_tagCounter (c : Controller) (kind : Octet) (body : List Octet) :
    ((c.orders plantPort kind body).port plantPort).tagCounter = (c.port plantPort).tagCounter + 1 := by
  rw [orders_eq, port_setPort_self]
  cases hlink : (c.port plantPort).link with
  | up => rw [PortRec.orderSent_up _ _ _ hlink]
  | down => rw [PortRec.orderSent_down _ _ _ hlink]

/-- The image of the compressor's claim granted, its OPEN and its START handed. -/
theorem Lags.claims {k : Nat} {late : Late} {c d : Controller} (h : c.Lags (k + 2) late d) (b : BankId) :
    (c.claimed b).Lags k late
      (((d.orders plantPort 0x50 (d.refillOpenBody b)).orders plantPort 0x51
        [0x01, BitVec.ofNat 8 (b.val + 1)]).claimHolds d b (d.port plantPort).tagCounter
          ((d.port plantPort).tagCounter + 1)) := by
  have hbody : c.refillOpenBody b = d.refillOpenBody b := by
    rw [h.rest]
    rfl
  have hopened : (c.opensRefill b).Lags (k + 1) late (d.orders plantPort 0x50 (d.refillOpenBody b)) := by
    rw [opensRefill, hbody]
    exact h.order 0x50 _ fun _ => rfl
  have hclaims : ∀ x : Controller, ∀ tag started, x.claimHolds c b tag started = x.claimHolds d b tag started := by
    rw [h.rest]
    exact fun _ _ _ => rfl
  rw [claimed, hclaims, h.tagCounter, hopened.tagCounter, orders_tagCounter]
  exact (hopened.order 0x51 [0x01, BitVec.ofNat 8 (b.val + 1)] fun _ => rfl).map
    (fun x => x.claimHolds d b (d.port plantPort).tagCounter ((d.port plantPort).tagCounter + 1)) fun _ _ => rfl

/-- As many places at the plant port as a start attempt may take, besides `k`. -/
def claimPlaces (d : Controller) (k : Nat) : Nat := if d.sched.state = .stopped then k + 2 else k

theorem claimPlaces_of_stopped {d : Controller} (h : d.sched.state = .stopped) (k : Nat) : d.claimPlaces k = k + 2 :=
  if_pos h

theorem le_claimPlaces (d : Controller) (k : Nat) : k ≤ d.claimPlaces k := by
  unfold claimPlaces
  split <;> omega

/-- R68, R69, R53: a start attempt of a compressor that may claim, with the pass after it. -/
theorem LeadsTo.attempt {k : Nat} {late : Late} {c d : Controller} (h : c.Lags (d.claimPlaces k) late d)
    (hmay : d.sched.state = .stopped → d.mayAttempt) :
    LeadsTo 2 (d.attempts.claimPlaces k) late [.startAttempt] c d.attempts := by
  have hbusy : c.busy ↔ d.busy := by rw [busy, h.sched, busy]
  by_cases hb : d.busy
  · rw [d.attempts_busy hb]
    exact LeadsTo.more (LeadsTo.skip (c := c) (e := .startAttempt)
      (fun v => startAttempt_busy { c with owed := v } (hbusy.mpr hb)) (LeadsTo.nil h)) (by omega)
  have hstopped : d.sched.state = .stopped := Classical.byContradiction fun hne => hb (.inl hne)
  have hcb : ¬ c.busy := fun hc => hb (hbusy.mp hc)
  obtain ⟨hheld, ⟨-, hclaim⟩, hhead⟩ := hmay hstopped
  rw [← h.alloc] at hheld hclaim hhead
  have hlow : (∃ p ∈ c.sched.inlet, p < 2000) ↔ ∃ p ∈ d.sched.inlet, p < 2000 := by rw [h.sched]
  have hwaits : c.mustWait ↔ d.mustWait := by rw [mustWait, h.alloc, h.store, mustWait]
  have hfirsts : c.firstIdle = d.firstIdle := by
    rw [h.rest]
    rfl
  have hstay : c.Lags k late d := h.fewer (d.le_claimPlaces k)
  by_cases hl : ∃ p ∈ d.sched.inlet, p < 2000
  · rw [d.attempts_starved hb hl]
    refine LeadsTo.more (LeadsTo.cons (c := c) (e := .startAttempt) (told := [])
      (x := { c with sched := { c.sched with state := .starved } })
      (fun v => startAttempt_starved { c with owed := v } hcb (hlow.mpr hl)) (LeadsTo.nil ?_)) (by omega)
    exact hstay.map (fun x => { x with sched := { x.sched with state := .starved } }) fun _ _ => rfl
  have hcl : ¬ ∃ p ∈ c.sched.inlet, p < 2000 := fun hc => hl (hlow.mp hc)
  cases hfirst : d.firstIdle with
  | none =>
    rw [d.attempts_none hb hl hfirst]
    refine LeadsTo.more (LeadsTo.skip (c := c) (e := .startAttempt) (fun v => ?_) (LeadsTo.nil h)) (by omega)
    refine (startAttempt_first { c with owed := v } hcb hcl).trans ?_
    rw [show ({ c with owed := v } : Controller).firstIdle = none from hfirsts.trans hfirst]
    rfl
  | some b =>
    have hcfirst : c.firstIdle = some b := hfirsts.trans hfirst
    obtain ⟨hconf, hidle⟩ := firstIdle_some hcfirst
    by_cases hwait : d.mustWait
    · rw [d.attempts_waits b hb hl hfirst hwait]
      refine LeadsTo.cons (c := c) (e := .startAttempt) (told := [.grantPass false]) (x := c.claimWaits b)
        (fun v => startAttempt_waits { c with owed := v } b hcb hcl hheld hcfirst (hwaits.mpr hwait)) ?_
      refine LeadsTo.skip (fun v => grantPass_waits { c.claimWaits b with owed := v } b hhead rfl hheld hconf hidle
        (hwaits.mpr hwait)) (LeadsTo.nil ?_)
      exact hstay.map (fun x => x.claimWaits b) fun _ _ => rfl
    · rw [d.attempts_claims b hb hl hfirst hwait]
      refine LeadsTo.cons (c := c) (e := .startAttempt) (told := [.grantPass false])
        (x := c.claimed b) (fun v => startAttempt_claims { c with owed := v } b hcb hcl hheld hcfirst fun hc =>
          hwait (hwaits.mp hc)) ?_
      have hnone : c.alloc.precoolList = [] := Classical.byContradiction fun hne =>
        hwait (hwaits.mp (.inl hne))
      rw [claimPlaces_of_stopped hstopped] at h
      refine LeadsTo.skip (fun v => grantPass_idle _ (fun e he => ?_) rfl) (LeadsTo.nil (h.claims b))
      exact absurd he (by
        show e ∉ c.alloc.precoolList.head?
        simp [hnone])

end Controller
end Sys2Proof.Machine
end

section
/-! R33, R66: what one entry of a BANK_SAMPLE causes. -/

namespace Sys2Proof.Machine
namespace Controller

/-- R33: a sample stored at a bank. -/
def sampled (c : Controller) (b : BankId) (e : SampleEntry) : Controller :=
  c.setBank b { c.bank b with
    pressure := some (min e.pressure.toNat 120000), temperature := some (max (-600) (min 1500 e.temperature.toInt)) }

/-- The refill queue as a bank joins it. -/
def joinedQueue (c : Controller) (b : BankId) : List BankId :=
  c.sched.queue.takeWhile (fun u => (c.bank b).tier.rank ≤ (c.bank u).tier.rank) ++
    b :: c.sched.queue.dropWhile fun u => (c.bank b).tier.rank ≤ (c.bank u).tier.rank

/-- A refill queue in place of the one there is. -/
def queueing (c : Controller) (q : List BankId) : Controller := { c with sched := { c.sched with queue := q } }

/-- An entry puts a bank at or above its stop threshold. -/
def fills (c : Controller) (b : BankId) (e : SampleEntry) : Prop :=
  c.store.settings.banks.stopThreshold.of (c.bank b).tier ≤ min e.pressure.toNat 120000

/-- R66: an entry makes a bank join the refill queue. -/
def joins (c : Controller) (b : BankId) (e : SampleEntry) : Prop :=
  min e.pressure.toNat 120000 < c.store.settings.banks.startThreshold.of (c.bank b).tier ∧ b ∉ c.sched.queue ∧
    (c.bank b).state ≠ .isolated

/-- The bank that an octet names, found among all. -/
theorem find_bankNamed (c : Controller) (o : Octet) :
    allBanks.find? (fun b => decide (o.toNat = b.val + 1 ∧ b.val < c.alloc.bankCount)) = c.bankNamed o := by
  cases hfind : allBanks.find? fun b => decide (o.toNat = b.val + 1 ∧ b.val < c.alloc.bankCount) with
  | some b =>
    obtain ⟨hnumber, hconf⟩ : o.toNat = b.val + 1 ∧ b.val < c.alloc.bankCount := by simpa using List.find?_some hfind
    rw [c.bankNamed_of o b hnumber hconf]
  | none =>
    cases hnamed : c.bankNamed o with
    | none => rfl
    | some b =>
      have hnot := List.find?_eq_none.mp hfind b (List.mem_finRange b)
      simp [bankNamed_some hnamed] at hnot

section Sampled

variable {c : Controller} {e : SampleEntry} {b : BankId}

theorem sampledBank_none (h : c.bankNamed e.bank = none) : c.sampledBank e = c := by
  rw [sampledBank, find_bankNamed, h]

theorem sampledBank_fills (h : c.bankNamed e.bank = some b) (hfull : c.fills b e) :
    c.sampledBank e = (c.sampled b e).queueing (c.sched.queue.filter fun u => u != b) := by
  rw [sampledBank, find_bankNamed, h]
  exact if_pos hfull

theorem sampledBank_joins (h : c.bankNamed e.bank = some b) (hfull : ¬ c.fills b e) (hjoins : c.joins b e) :
    c.sampledBank e = ((c.sampled b e).queueing (c.joinedQueue b)).attempts := by
  rw [sampledBank, find_bankNamed, h]
  exact (if_neg hfull).trans (if_pos hjoins)

theorem sampledBank_queued (h : c.bankNamed e.bank = some b) (hfull : ¬ c.fills b e) (hjoins : ¬ c.joins b e)
    (hqueued : b ∈ c.sched.queue ∧ (c.bank b).state = .idle) : c.sampledBank e = (c.sampled b e).attempts := by
  rw [sampledBank, find_bankNamed, h]
  exact (if_neg hfull).trans ((if_neg hjoins).trans (if_pos hqueued))

theorem sampledBank_stays (h : c.bankNamed e.bank = some b) (hfull : ¬ c.fills b e) (hjoins : ¬ c.joins b e)
    (hqueued : ¬ (b ∈ c.sched.queue ∧ (c.bank b).state = .idle)) : c.sampledBank e = c.sampled b e := by
  rw [sampledBank, find_bankNamed, h]
  exact (if_neg hfull).trans ((if_neg hjoins).trans (if_neg hqueued))

end Sampled

/-! ## The queue judged (R66) -/

/-- The bank record that a sample leaves. -/
theorem bank_sampled (c : Controller) (b : BankId) (e : SampleEntry) : (c.sampled b e).bank b = { c.bank b with
    pressure := some (min e.pressure.toNat 120000), temperature := some (max (-600) (min 1500 e.temperature.toInt)) } :=
  c.bank_setBank_self b _

theorem tier_sampled (c : Controller) (b u : BankId) (e : SampleEntry) :
    ((c.sampled b e).bank u).tier = (c.bank u).tier := by
  by_cases hu : u = b
  · rw [hu, bank_sampled]
  · rw [sampled, bank_setBank_ne _ _ hu]

theorem state_sampled (c : Controller) (b u : BankId) (e : SampleEntry) :
    ((c.sampled b e).bank u).state = (c.bank u).state := by
  by_cases hu : u = b
  · rw [hu, bank_sampled]
  · rw [sampled, bank_setBank_ne _ _ hu]

/-- The start attempt that a judged queue tells of. -/
def attemptIfStopped (c : Controller) : List Event := if c.sched.state = .stopped then [.startAttempt] else []

section Judged

variable {c : Controller} {b : BankId} {p : Nat}

theorem judgeQueue_at_stop (hp : (c.bank b).pressure = some p)
    (hfull : c.store.settings.banks.stopThreshold.of (c.bank b).tier ≤ p) :
    c.judgeQueue b = (c.leaveQueue b).andThen fun d =>
      if d.sched.refillBank = some b ∧ d.sched.refilling = true then d.endRefill .full else .of d := by
  unfold judgeQueue
  dsimp only
  rw [hp]
  exact if_pos hfull

theorem judgeQueue_below_start (hp : (c.bank b).pressure = some p)
    (hfull : ¬ c.store.settings.banks.stopThreshold.of (c.bank b).tier ≤ p)
    (hjoins : p < c.store.settings.banks.startThreshold.of (c.bank b).tier ∧ ¬ b ∈ c.sched.queue ∧
      (c.bank b).state ≠ .isolated) :
    c.judgeQueue b = ⟨c.queueing (joinQueue (fun u => (c.bank u).tier) b c.sched.queue), c.attemptIfStopped⟩ := by
  unfold judgeQueue
  dsimp only
  rw [hp]
  refine (if_neg hfull).trans ?_
  rw [if_pos hjoins]
  refine congrArg (fun l => (⟨_, l⟩ : Eff)) ?_
  exact if_congr (and_iff_left (.inl hjoins)) rfl rfl

theorem judgeQueue_between (hp : (c.bank b).pressure = some p)
    (hfull : ¬ c.store.settings.banks.stopThreshold.of (c.bank b).tier ≤ p)
    (hjoins : ¬ (p < c.store.settings.banks.startThreshold.of (c.bank b).tier ∧ ¬ b ∈ c.sched.queue ∧
      (c.bank b).state ≠ .isolated)) :
    c.judgeQueue b = ⟨c, if b ∈ c.sched.queue ∧ (c.bank b).state = .idle then c.attemptIfStopped else []⟩ := by
  unfold judgeQueue
  dsimp only
  rw [hp]
  refine (if_neg hfull).trans ?_
  rw [if_neg hjoins]
  refine congrArg (fun l => (⟨c, l⟩ : Eff)) ?_
  by_cases hqueued : b ∈ c.sched.queue ∧ (c.bank b).state = .idle
  · rw [if_pos hqueued]
    exact if_congr (and_iff_left (.inr hqueued)) rfl rfl
  · rw [if_neg hqueued]
    exact if_neg fun h => h.2.elim hjoins hqueued

end Judged

theorem leaveQueue_plain (c : Controller) (b : BankId) (h : c.sched.claimPending ≠ some b) :
    c.leaveQueue b = .of (c.queueing (c.sched.queue.filter fun u => u != b)) := if_neg h

section OfSample

variable (c : Controller) (b : BankId) (e : SampleEntry)

theorem judgeQueue_fills (hfull : c.fills b e) (hclaim : c.sched.claimPending ≠ some b)
    (hrefill : ¬ (c.sched.refillBank = some b ∧ c.sched.refilling = true)) :
    (c.sampled b e).judgeQueue b = .of ((c.sampled b e).queueing (c.sched.queue.filter fun u => u != b)) := by
  rw [judgeQueue_at_stop (p := min e.pressure.toNat 120000) (by rw [bank_sampled]) (by rw [tier_sampled]; exact hfull),
    leaveQueue_plain (c.sampled b e) b hclaim]
  exact congrArg (fun x : Eff => (⟨x.ctl, [] ++ x.events⟩ : Eff)) (if_neg hrefill)

theorem judgeQueue_joins (hfull : ¬ c.fills b e) (hjoins : c.joins b e) :
    (c.sampled b e).judgeQueue b = ⟨(c.sampled b e).queueing (c.joinedQueue b), c.attemptIfStopped⟩ := by
  rw [judgeQueue_below_start (p := min e.pressure.toNat 120000) (by rw [bank_sampled])
    (by rw [tier_sampled]; exact hfull) (by rw [tier_sampled, state_sampled]; exact hjoins), joinQueue_eq]
  simp only [tier_sampled]
  rfl

theorem judgeQueue_else (hfull : ¬ c.fills b e) (hjoins : ¬ c.joins b e) :
    (c.sampled b e).judgeQueue b =
      ⟨c.sampled b e, if b ∈ c.sched.queue ∧ (c.bank b).state = .idle then c.attemptIfStopped else []⟩ := by
  rw [judgeQueue_between (p := min e.pressure.toNat 120000) (by rw [bank_sampled])
    (by rw [tier_sampled]; exact hfull) (by rw [tier_sampled, state_sampled]; exact hjoins), state_sampled]
  rfl

end OfSample

/-! ## One entry, with what it causes -/

/-- The start attempt of a judged queue. -/
theorem LeadsTo.attemptIfStopped {k : Nat} {late : Late} {c d : Controller} (h : c.Lags (d.claimPlaces k) late d)
    (hmay : d.sched.state = .stopped → d.mayAttempt) :
    LeadsTo 2 (d.attempts.claimPlaces k) late d.attemptIfStopped c d.attempts := by
  by_cases hstopped : d.sched.state = .stopped
  · rw [show d.attemptIfStopped = [.startAttempt] from if_pos hstopped]
    exact LeadsTo.attempt h hmay
  · rw [show d.attemptIfStopped = [] from if_neg hstopped, d.attempts_busy (.inl hstopped)]
    exact LeadsTo.more (LeadsTo.nil h) (by omega)

theorem Lags.sampled {k : Nat} {late : Late} {c d : Controller} (h : c.Lags k late d) (b : BankId) (e : SampleEntry) :
    (c.sampled b e).Lags k late (d.sampled b e) := h.map (fun x => x.sampled b e) fun _ _ => rfl

theorem Lags.queueing {k : Nat} {late : Late} {c d : Controller} (h : c.Lags k late d) (q : List BankId) :
    (c.queueing q).Lags k late (d.queueing q) := h.map (fun x => x.queueing q) fun _ _ => rfl

/-- R66: the queue judged after a sample. -/
theorem LeadsTo.judged {k : Nat} {late : Late} {c d : Controller} {e : SampleEntry} {b : BankId}
    (h : c.Lags (d.claimPlaces k) late d) (hb : d.bankNamed e.bank = some b)
    (hmay : d.sched.state = .stopped → d.mayAttempt)
    (hkept : d.fills b e → d.sched.claimPending ≠ some b ∧ ¬ (d.sched.refillBank = some b ∧ d.sched.refilling = true)) :
    LeadsTo 3 ((d.sampledBank e).claimPlaces k) late [.bankSampled b] (c.sampled b e) (d.sampledBank e) := by
  have hfills : c.fills b e ↔ d.fills b e := by rw [h.rest]; rfl
  have hjoins : c.joins b e ↔ d.joins b e := by rw [h.rest]; rfl
  have hqueue : c.joinedQueue b = d.joinedQueue b := by rw [h.rest]; rfl
  have hattempt : c.attemptIfStopped = d.attemptIfStopped := by rw [Controller.attemptIfStopped, h.sched]; rfl
  have hidle : (c.bank b).state = (d.bank b).state := by rw [h.rest]; rfl
  have himage := h.sampled b e
  by_cases hfull : d.fills b e
  · obtain ⟨hclaim, hrefill⟩ := hkept hfull
    rw [← h.sched] at hclaim hrefill
    rw [sampledBank_fills hb hfull, ← h.sched]
    exact LeadsTo.more (LeadsTo.cons (c := c.sampled b e) (e := .bankSampled b) (told := [])
      (x := (c.sampled b e).queueing (c.sched.queue.filter fun u => u != b))
      (fun v => judgeQueue_fills { c with owed := v } b e (hfills.mpr hfull) hclaim hrefill)
      (LeadsTo.nil (himage.queueing _))) (by omega)
  have hcfull : ¬ c.fills b e := fun hc => hfull (hfills.mp hc)
  by_cases hjoin : d.joins b e
  · rw [sampledBank_joins hb hfull hjoin, ← hqueue]
    refine LeadsTo.cons (c := c.sampled b e) (e := .bankSampled b) (told := c.attemptIfStopped)
      (x := (c.sampled b e).queueing (c.joinedQueue b))
      (fun v => judgeQueue_joins { c with owed := v } b e hcfull (hjoins.mpr hjoin)) ?_
    rw [List.append_nil, hattempt]
    exact LeadsTo.attemptIfStopped (d := (d.sampled b e).queueing _) (himage.queueing _) hmay
  have hcjoin : ¬ c.joins b e := fun hc => hjoin (hjoins.mp hc)
  refine LeadsTo.cons (c := c.sampled b e) (e := .bankSampled b) (x := c.sampled b e)
    (told := if b ∈ c.sched.queue ∧ (c.bank b).state = .idle then c.attemptIfStopped else [])
    (fun v => judgeQueue_else { c with owed := v } b e hcfull hcjoin) ?_
  rw [List.append_nil, h.sched, hidle, hattempt]
  by_cases hqueued : b ∈ d.sched.queue ∧ (d.bank b).state = .idle
  · rw [if_pos hqueued, sampledBank_queued hb hfull hjoin hqueued]
    exact LeadsTo.attemptIfStopped (d := d.sampled b e) himage hmay
  · rw [if_neg hqueued, sampledBank_stays hb hfull hjoin hqueued]
    exact LeadsTo.more (LeadsTo.nil himage) (by omega)

/-- R33: an entry of a configured bank, with nobody waiting for a bank. -/
theorem LeadsTo.entry {k : Nat} {late : Late} {c d : Controller} {e : SampleEntry} {b : BankId}
    (h : c.Lags (d.claimPlaces k) late d) (hb : d.bankNamed e.bank = some b) (hlist : d.alloc.bankList = [])
    (hmay : d.sched.state = .stopped → d.mayAttempt)
    (hkept : d.fills b e → d.sched.claimPending ≠ some b ∧ ¬ (d.sched.refillBank = some b ∧ d.sched.refilling = true)) :
    LeadsTo 5 ((d.sampledBank e).claimPlaces k) late
      [.bankSampleEntry b (clampPressure e.pressure) (clampTemperature e.temperature)] c (d.sampledBank e) := by
  have hjudged := LeadsTo.judged h hb hmay hkept
  have hnone : (c.sampled b e).alloc.bankList = [] := by
    rw [← h.alloc] at hlist
    exact hlist
  refine LeadsTo.cons (c := c) (x := c.sampled b e)
    (told := (if (c.bank b).state = .idle then [Event.grantScan] else []) ++ [.bankSampled b]) (fun v => rfl) ?_
  rw [List.append_nil]
  split
  · exact LeadsTo.append (Leads.scan hnone) le_rfl hjudged
  · exact hjudged.more (by omega)

end Controller
end Sys2Proof.Machine
end

section
/-! R33: the entries of a BANK_SAMPLE, one after the other. -/

namespace Sys2Proof.Machine
namespace Controller

/-- What a start attempt leaves of the number of configured banks and of the events that wait. -/
theorem attempts_kept (c : Controller) :
    c.attempts.alloc.bankCount = c.alloc.bankCount ∧ c.attempts.owed = c.owed := by
  by_cases hb : c.busy
  · rw [c.attempts_busy hb]
    exact ⟨rfl, rfl⟩
  by_cases hl : ∃ p ∈ c.sched.inlet, p < 2000
  · rw [c.attempts_starved hb hl]
    exact ⟨rfl, rfl⟩
  cases hfirst : c.firstIdle with
  | none =>
    rw [c.attempts_none hb hl hfirst]
    exact ⟨rfl, rfl⟩
  | some b =>
    by_cases hwait : c.mustWait
    · rw [c.attempts_waits b hb hl hfirst hwait]
      exact ⟨rfl, rfl⟩
    · rw [c.attempts_claims b hb hl hfirst hwait, orders_eq, orders_eq]
      exact ⟨rfl, rfl⟩

/-- What an entry leaves of them. -/
theorem sampledBank_kept (c : Controller) (e : SampleEntry) :
    (c.sampledBank e).alloc.bankCount = c.alloc.bankCount ∧ (c.sampledBank e).owed = c.owed := by
  cases hb : c.bankNamed e.bank with
  | none =>
    rw [sampledBank_none hb]
    exact ⟨rfl, rfl⟩
  | some b =>
    by_cases hfull : c.fills b e
    · rw [sampledBank_fills hb hfull]
      exact ⟨rfl, rfl⟩
    by_cases hjoins : c.joins b e
    · rw [sampledBank_joins hb hfull hjoins]
      exact attempts_kept _
    by_cases hqueued : b ∈ c.sched.queue ∧ (c.bank b).state = .idle
    · rw [sampledBank_queued hb hfull hjoins hqueued]
      exact attempts_kept _
    · rw [sampledBank_stays hb hfull hjoins hqueued]
      exact ⟨rfl, rfl⟩

theorem bankNamed_sampledBank (c : Controller) (e : SampleEntry) (o : Octet) :
    (c.sampledBank e).bankNamed o = c.bankNamed o := by
  unfold bankNamed
  cases bankOfNumber o.toNat with
  | none => rfl
  | some b => exact if_congr (by rw [configured, configured, (c.sampledBank_kept e).1]) rfl rfl

theorem owed_samples (l : List SampleEntry) : ∀ c : Controller, (l.foldl sampledBank c).owed = c.owed := by
  induction l with
  | nil => exact fun _ => rfl
  | cons e l ih => exact fun c => (ih _).trans (c.sampledBank_kept e).2

/-- An entry names a configured bank and fills it. -/
def fillsNamed (c : Controller) (e : SampleEntry) (b : BankId) : Prop := c.bankNamed e.bank = some b ∧ c.fills b e

/-- Entries that can be taken one after the other: nobody waits for a bank, no entry fills the bank of a claim or of
the refill, and a compressor that is STOPPED may claim a bank that no entry fills. -/
structure TakesSamples (c : Controller) (l : List SampleEntry) : Prop where
  list : c.alloc.bankList = []
  kept : ∀ e ∈ l, ∀ b, c.fillsNamed e b → c.sched.claimPending ≠ some b ∧
    ¬ (c.sched.refillBank = some b ∧ c.sched.refilling = true)
  may : c.sched.state = .stopped → c.mayAttempt ∧ ∀ e ∈ l, ∀ b, c.fillsNamed e b → (c.bank b).state ≠ .idle

namespace TakesSamples

variable {c : Controller} {l : List SampleEntry}

theorem tail {e : SampleEntry} (h : c.TakesSamples (e :: l)) : c.TakesSamples l :=
  ⟨h.list, fun u hu => h.kept u (List.mem_cons_of_mem _ hu), fun hs =>
    ⟨(h.may hs).1, fun u hu => (h.may hs).2 u (List.mem_cons_of_mem _ hu)⟩⟩

theorem sampled (h : c.TakesSamples l) (b : BankId) (e : SampleEntry) : (c.sampled b e).TakesSamples l := by
  have hnamed : ∀ u d, (c.sampled b e).fillsNamed u d → c.fillsNamed u d := fun u d => by
    rintro ⟨hname, hfull⟩
    rw [fills, tier_sampled] at hfull
    exact ⟨hname, hfull⟩
  exact ⟨h.list, fun u hu d hd => h.kept u hu d (hnamed u d hd), fun hs => ⟨(h.may hs).1, fun u hu d hd => by
    rw [state_sampled]
    exact (h.may hs).2 u hu d (hnamed u d hd)⟩⟩

theorem queueing (h : c.TakesSamples l) (q : List BankId) : (c.queueing q).TakesSamples l := ⟨h.list, h.kept, h.may⟩

/-- What a start attempt claims is an IDLE bank. -/
theorem attempts (h : c.TakesSamples l) : c.attempts.TakesSamples l := by
  by_cases hb : c.busy
  · rwa [c.attempts_busy hb]
  have hstopped : c.sched.state = .stopped := Classical.byContradiction fun hne => hb (.inl hne)
  obtain ⟨⟨-, ⟨hpending, -⟩, -⟩, hidle⟩ := h.may hstopped
  by_cases hl : ∃ p ∈ c.sched.inlet, p < 2000
  · rw [c.attempts_starved hb hl]
    exact ⟨h.list, fun u hu d hd => ⟨(h.kept u hu d hd).1, by simp [Scheduler.refilling]⟩, by simp⟩
  cases hfirst : c.firstIdle with
  | none => rwa [c.attempts_none hb hl hfirst]
  | some b =>
    have hother : ∀ u ∈ l, ∀ d, c.fillsNamed u d → b ≠ d := by
      rintro u hu d hd rfl
      exact hidle u hu b hd (firstIdle_some hfirst).2
    by_cases hwait : c.mustWait
    · rw [c.attempts_waits b hb hl hfirst hwait]
      refine ⟨h.list, fun u hu d hd => ⟨?_, ?_⟩, ?_⟩
      · simpa [claimWaits] using hother u hu d hd
      · simp [claimWaits, Scheduler.refilling]
      · simp [claimWaits]
    · rw [c.attempts_claims b hb hl hfirst hwait]
      generalize hy : claimHolds _ c b _ _ = y
      have hstore : y.store = c.store := by
        rw [← hy, orders_eq, orders_eq]
        rfl
      have htier : ∀ u, (y.bank u).tier = (c.bank u).tier := fun u => by
        by_cases hu : u = b
        · rw [← hy, hu]
          simp [claimHolds, bank, BankRec.granted]
        · have hne : b.val ≠ u.val := fun e => hu (Fin.ext e.symm)
          rw [← hy]
          simp [claimHolds, bank, hne]
      have hnamed : ∀ u d, y.fillsNamed u d → c.fillsNamed u d := fun u d => by
        rintro ⟨hname, hfull⟩
        rw [fills, hstore, htier] at hfull
        rw [← hy] at hname
        exact ⟨hname, hfull⟩
      refine ⟨by rw [← hy]; exact h.list, fun u hu d hd => ⟨by rw [← hy]; simp [claimHolds], fun hrefill => ?_⟩, ?_⟩
      · rw [← hy] at hrefill
        exact hother u hu d (hnamed u d hd) (Option.some.inj hrefill.1)
      · rw [← hy]
        simp [claimHolds]

theorem sampledBank {e : SampleEntry} (h : c.TakesSamples l) : (c.sampledBank e).TakesSamples l := by
  cases hb : c.bankNamed e.bank with
  | none => rwa [sampledBank_none hb]
  | some b =>
    by_cases hfull : c.fills b e
    · rw [sampledBank_fills hb hfull]
      exact (h.sampled b e).queueing _
    by_cases hjoins : c.joins b e
    · rw [sampledBank_joins hb hfull hjoins]
      exact ((h.sampled b e).queueing _).attempts
    by_cases hqueued : b ∈ c.sched.queue ∧ (c.bank b).state = .idle
    · rw [sampledBank_queued hb hfull hjoins hqueued]
      exact (h.sampled b e).attempts
    · rw [sampledBank_stays hb hfull hjoins hqueued]
      exact h.sampled b e

end TakesSamples

/-- R33: the entries of a BANK_SAMPLE in list order, each with what it causes. -/
theorem LeadsTo.entries {k : Nat} {late : Late} (l : List SampleEntry) :
    ∀ {c d : Controller}, c.Lags (d.claimPlaces k) late d → d.TakesSamples l →
      LeadsTo (5 * l.length) ((l.foldl sampledBank d).claimPlaces k) late (d.sampleEvents l) c
        (l.foldl sampledBank d) := by
  induction l with
  | nil => exact fun h _ => LeadsTo.nil h
  | cons e l ih =>
    intro c d h ht
    have hnext : (d.sampledBank e).sampleEvents l = d.sampleEvents l := by
      simp only [sampleEvents, bankNamed_sampledBank]
    cases hb : d.bankNamed e.bank with
    | none =>
      have hevents : d.sampleEvents (e :: l) = d.sampleEvents l := by simp [sampleEvents, hb]
      rw [hevents, List.foldl_cons, sampledBank_none hb]
      exact (ih h ht.tail).more (by rw [List.length_cons]; omega)
    | some b =>
      have hevents : d.sampleEvents (e :: l) =
          [.bankSampleEntry b (clampPressure e.pressure) (clampTemperature e.temperature)] ++ d.sampleEvents l := by
        simp [sampleEvents, hb]
      obtain ⟨x, n, hn, hl, himage⟩ := LeadsTo.entry h hb ht.list (fun hs => (ht.may hs).1) fun hfull =>
        ht.kept e List.mem_cons_self b ⟨hb, hfull⟩
      rw [hevents, List.foldl_cons, ← hnext]
      exact (LeadsTo.append hl hn (ih himage ht.tail.sampledBank)).more (by rw [List.length_cons]; omega)

/-- The taking of the telegram leaves a controller that takes its entries. -/
theorem TakesSamples.taken {c : Controller} {l : List SampleEntry} (h : c.TakesSamples l) (rest : List Telegram) :
    (c.taken plantPort rest).TakesSamples l := ⟨h.list, h.kept, h.may⟩

end Controller

theorem bankSample_permitted {tag : Octet} {l : List SampleEntry} {x : List Octet}
    (h : Instr.wellFormed (.bankSample plantPort tag l x) = true) :
    Telegram.permitted ⟨0x30, tag, l.flatMap SampleEntry.field ++ x⟩ = true ∧ l.length ≤ 12 := by
  simp only [Instr.wellFormed, Bool.and_eq_true, decide_eq_true_eq] at h
  obtain ⟨⟨hone, -⟩, hmost⟩ := h
  have hlen : (l.flatMap SampleEntry.field ++ x).length = 6 * l.length + x.length := by
    rw [List.length_append, length_flatMap_const _ _ 6 fun _ => rfl]
  refine ⟨?_, by omega⟩
  have hbounds : 6 ≤ (l.flatMap SampleEntry.field ++ x).length ∧ (l.flatMap SampleEntry.field ++ x).length ≤ 72 := by
    omega
  simpa [Telegram.permitted, kindInfo] using hbounds

/-- R33: a BANK_SAMPLE taken, its entries in list order. -/
theorem exec_bankSample (s : State) (tag : Octet) (l : List SampleEntry) (x : List Octet) (rest : List Telegram)
    (h : s.ctl.atRest) (hform : Instr.wellFormed (.bankSample plantPort tag l x) = true)
    (ha : s.ctl.told plantPort ⟨0x30, tag, l.flatMap SampleEntry.field ++ x⟩ rest)
    (ht : s.ctl.TakesSamples l) (hroom : s.ctl.sched.state = .stopped → s.ctl.roomFor plantPort 2) :
    exec (.bankSample plantPort tag l x) s =
      .next (s.withCtl (l.foldl Controller.sampledBank (s.ctl.taken plantPort rest))) := by
  obtain ⟨hpermitted, hlen⟩ := bankSample_permitted hform
  have htaken := Controller.atRest.taken h rest
  have hlags : (s.ctl.taken plantPort rest).Lags ((s.ctl.taken plantPort rest).claimPlaces 0) none
      (s.ctl.taken plantPort rest) := by
    by_cases hstopped : s.ctl.sched.state = .stopped
    · rw [Controller.claimPlaces_of_stopped (d := s.ctl.taken plantPort rest) hstopped]
      exact Controller.atRest.lags htaken (Controller.roomFor_taken (hroom hstopped) rest)
    · rw [show (s.ctl.taken plantPort rest).claimPlaces 0 = 0 from if_neg hstopped]
      exact Controller.atRest.lags_none htaken
  obtain ⟨y, n, hn, hl, himage⟩ := Controller.LeadsTo.entries l hlags (ht.taken rest)
  have howed := (Controller.owed_samples l (s.ctl.taken plantPort rest)).trans h.2.1
  simp only [exec, execBankSample, State.report, telegramOf, State.does]
  rw [s.ctl.perform_told (s.ctl.taken plantPort rest) y _ rest _ n _ h ha hpermitted rfl rfl h.2.1 hl (by omega)
    (himage.owed.symm.trans howed), himage.settled]
  rfl

end Sys2Proof.Machine
end

section
/-! R73: a refill that ends. -/

namespace Sys2Proof.Machine

/-- R41: a release that is noted behind an OPEN in flight. -/
def BankRec.notesRelease (r : BankRec) (who : Holder) : Prop :=
  r.holder = some who ∧ r.releasePending = false ∧ ∃ o, r.order = some o ∧ o.action = .opened

section Released

variable {r : BankRec} {who : Holder} {tag : Octet} {time : Nat}

theorem BankRec.released_freed (h : r.freedNow who) :
    r.released who tag time = { r with order := some ⟨.closed, tag, who, r.generation, some time⟩ } := by
  obtain ⟨hholder, horder, hpending⟩ := h
  simp [BankRec.released, hholder, horder, hpending]

theorem BankRec.released_noted (h : r.notesRelease who) : r.released who tag time = { r with releasePending := true } := by
  obtain ⟨hholder, hpending, o, horder, hopen⟩ := h
  simp [BankRec.released, hholder, horder, hpending, hopen]

theorem BankRec.released_kept (hfreed : ¬ r.freedNow who) (hnotes : ¬ r.notesRelease who) :
    r.released who tag time = r := by
  unfold BankRec.released
  split
  · rfl
  · rename_i hholder
    have hholder := not_not.mp hholder
    split
    · rename_i horder hpending
      exact absurd ⟨hholder, horder, hpending⟩ hfreed
    · rename_i o horder hpending
      exact if_neg fun hopen => hnotes ⟨hholder, hpending, o, horder, hopen⟩
    · rfl

end Released

namespace Controller

/-- R41: the release of a bank asked for, by whomsoever: the CLOSE handed where neither an order is in flight nor a
release pending. -/
theorem releaseBank_freed (c : Controller) (b : BankId) (who : Holder) (h : (c.bank b).freedNow who) :
    c.releaseBank b who = (c.setPort plantPort ((c.port plantPort).ordered 0x50
      [BitVec.ofNat 8 (b.val + 1), who.code, 0x02, (c.bank b).generation, 0, 0, 0])).setBank b
        ((c.bank b).released who (c.port plantPort).tagCounter c.orderTime) := by
  have hsent : c.releaseBank b who = c.handValve b who .closed := by
    obtain ⟨hholder, horder, hpending⟩ := h
    simp [releaseBank, hholder, horder, hpending]
  rw [hsent, handValve_eq, closeBody, BankRec.released_freed h]

theorem releaseBank_unfreed (c : Controller) (b : BankId) (who : Holder) (h : ¬ (c.bank b).freedNow who) :
    c.releaseBank b who = c.setBank b ((c.bank b).released who (c.port plantPort).tagCounter c.orderTime) := by
  by_cases hnotes : (c.bank b).notesRelease who
  · rw [BankRec.released_noted hnotes]
    obtain ⟨hholder, hpending, o, horder, hopen⟩ := hnotes
    simp [releaseBank, hholder, horder, hpending, hopen, updBank]
  · have hself : c.setBank b (c.bank b) = c := by simp [setBank, bank]
    rw [BankRec.released_kept h hnotes, hself]
    unfold releaseBank
    dsimp only
    split
    · rfl
    · rename_i hholder
      have hholder := not_not.mp hholder
      split
      · rename_i o horder
        exact if_neg fun hopen => hnotes ⟨hholder, hopen.2, o, horder, hopen.1⟩
      · rename_i horder
        exact if_pos (Bool.of_not_eq_false fun hpending => h ⟨hholder, horder, hpending⟩)

/-- R70: the plant port with the STOP of a refill that ends: handed where no run order is in flight. -/
def stopping (c : Controller) : Controller :=
  c.setPort plantPort (match c.sched.order with
    | none => (c.port plantPort).ordered 0x51 [0x02, bankCode c.sched.refillBank]
    | some _ => c.port plantPort)

/-- R73: the plant port with the CLOSE of the bank that the compressor of `c` holds. -/
def shutting (x c : Controller) : Controller :=
  x.setPort plantPort (match c.sched.heldBank with
    | some h =>
      if (c.bank h.bank).holder = some .compressor ∧ (c.bank h.bank).order = none ∧
          (c.bank h.bank).releasePending = false then
        (x.port plantPort).ordered 0x50
          [BitVec.ofNat 8 (h.bank.val + 1), 0x07, 0x02, (c.bank h.bank).generation, 0, 0, 0]
      else x.port plantPort
    | none => x.port plantPort)

/-- What the end of the refill of `c` changes besides the plant port; `stop` and `close` are the tags its orders take. -/
def refillOver (x c : Controller) (next : CompressorState) (stalls : Nat) (stop close : Octet) : Controller :=
  { x with
    alloc := { c.alloc with
      compressorReservation := if c.alloc.compressorHeld then 0 else c.alloc.compressorReservation
      compressorHeld := false
      banks := match c.sched.heldBank with
        | some h => c.alloc.banks.set h.bank ((c.bank h.bank).released .compressor close c.orderTime)
        | none => c.alloc.banks }
    sched := { c.sched with
      state := next, refillBank := none, heldBank := c.sched.heldBank.map fun h : HeldBank => ⟨h.bank, true⟩
      runConfirmed := false, valveOpen := false, stallWindow := none, stallCount := stalls
      order := match c.sched.order with
        | none => some ⟨.stop, c.sched.refillBank, stop, some c.orderTime⟩
        | some o => some o
      stopPending := c.sched.stopPending || c.sched.order.any fun o : RunOrder => o.action == .start } }

/-- The run order in flight once a STOP is needed. -/
def stopOrder (c : Controller) (stop : Octet) : Option RunOrder :=
  match c.sched.order with
  | none => some ⟨.stop, c.sched.refillBank, stop, some c.orderTime⟩
  | some o => some o

/-- R70: the STOP of a refill that ends. -/
theorem callStop_eq (c : Controller) :
    c.callStop c.sched.refillBank = { c.stopping with sched := { c.sched with
      order := c.stopOrder (c.port plantPort).tagCounter
      stopPending := c.sched.stopPending || c.sched.order.any fun o : RunOrder => o.action == .start } } := by
  unfold callStop stopping stopOrder
  cases horder : c.sched.order with
  | none =>
    dsimp only
    rw [handRun, handOrder_eq]
    simp
    rfl
  | some o =>
    have hkept : ({ c.sched with order := some o } : Scheduler) = c.sched := by rw [← horder]
    have hself : ∀ p : Bool, ({ c.setPort plantPort (c.port plantPort) with
        sched := { c.sched with order := some o, stopPending := p } } : Controller) =
        c.updSched fun s => { s with stopPending := p } := fun p => by
      rw [setPort_port, updSched, ← hkept]
    cases ho : o.action with
    | start =>
      simp only [Option.any_some, ho, beq_self_eq_true, Bool.or_true]
      exact (hself true).symm
    | stop =>
      simp only [Option.any_some, ho]
      rw [show (RunAction.stop == RunAction.start) = false from rfl, Bool.or_false]
      exact (hself c.sched.stopPending).symm

/-- The controller of a refill that ends, its STOP called for. -/
def refillStopped (c : Controller) : Controller :=
  { c.stopping with sched := { c.sched with
    stallWindow := none, runConfirmed := false, valveOpen := false
    order := c.stopOrder (c.port plantPort).tagCounter
    stopPending := c.sched.stopPending || c.sched.order.any fun o : RunOrder => o.action == .start } }

/-- R73: the release of the bank it held asked for. -/
def refillReleased (c : Controller) : Controller :=
  match c.refillStopped.sched.heldBank with
  | some h => (c.refillStopped.releaseBank h.bank .compressor).updSched fun s => { s with heldBank := some ⟨h.bank, true⟩ }
  | none => c.refillStopped

theorem endRefill_stages (c : Controller) (why : RefillEnd) (hlink : why ≠ .plantLink) (hisolated : why ≠ .isolated) :
    c.endRefill why = (c.refillReleased.releaseCompressor.change fun d => d.updSched fun s => { s with
      refillBank := none
      stallCount := if why = .full then 0 else s.stallCount
      state := why.next }).tell (if why.next = .stopped then [.startAttempt] else []) := by
  have hstop : (c.updSched fun s => { s with stallWindow := none, runConfirmed := false, valveOpen := false }).callStop
      c.sched.refillBank = c.refillStopped :=
    callStop_eq (c.updSched fun s => { s with stallWindow := none, runConfirmed := false, valveOpen := false })
  unfold endRefill refillReleased
  dsimp only
  rw [if_neg hlink, hstop]
  simp only [if_neg hisolated, and_iff_left hlink] <;> rfl

/-- What the release of the bank leaves. -/
theorem refillReleased_eq (c : Controller) : c.refillReleased = { c.stopping.shutting c with
    alloc := { c.alloc with banks := match c.sched.heldBank with
      | some h => c.alloc.banks.set h.bank
          ((c.bank h.bank).released .compressor (c.stopping.port plantPort).tagCounter c.orderTime)
      | none => c.alloc.banks }
    sched := { c.refillStopped.sched with
      heldBank := c.sched.heldBank.map fun h : HeldBank => ⟨h.bank, true⟩ } } := by
  have hkept : c.refillStopped.sched.heldBank = c.sched.heldBank := rfl
  unfold refillReleased shutting
  rw [hkept]
  cases hheld : c.sched.heldBank with
  | none =>
    have hnone : ({ c.refillStopped.sched with heldBank := none } : Scheduler) = c.refillStopped.sched := by
      rw [← hheld]
      rfl
    dsimp only [Option.map_none]
    rw [hnone, setPort_port]
    rfl
  | some h =>
    dsimp only [Option.map_some]
    by_cases hfreed : (c.bank h.bank).holder = some .compressor ∧ (c.bank h.bank).order = none ∧
        (c.bank h.bank).releasePending = false
    · rw [releaseBank_freed c.refillStopped h.bank .compressor hfreed, if_pos hfreed]
      rfl
    · rw [releaseBank_unfreed c.refillStopped h.bank .compressor hfreed, if_neg hfreed, setPort_port]
      rfl

/-- R73: a refill that ends, but for the loss of the plant link and the isolation of its bank. -/
theorem endRefill_eq (c : Controller) (why : RefillEnd) (hlink : why ≠ .plantLink) (hisolated : why ≠ .isolated) :
    c.endRefill why = ⟨(c.stopping.shutting c).refillOver c why.next (if why = .full then 0 else c.sched.stallCount)
      (c.port plantPort).tagCounter (c.stopping.port plantPort).tagCounter,
      (if c.alloc.compressorHeld = true then [Event.grantPass false] else []) ++
        if why.next = .stopped then [.startAttempt] else []⟩ := by
  rw [c.endRefill_stages why hlink hisolated, refillReleased_eq, releaseCompressor]
  dsimp only
  unfold refillOver
  by_cases hheld : c.alloc.compressorHeld = true
  · rw [if_pos hheld, if_pos hheld, if_pos hheld]
    rfl
  · have hfalse : c.alloc.compressorHeld = false := by simpa using hheld
    rw [if_neg hheld, if_neg hheld, if_neg hheld]
    dsimp only [Eff.change, Eff.tell, Eff.of, updSched]
    rw [hfalse]
    rfl

/-! ## Its image -/

/-- The STOP of a refill that ends, sent. -/
def stopSent (d : Controller) : Controller :=
  if d.sched.order = none then d.orders plantPort 0x51 [0x02, bankCode d.sched.refillBank] else d

/-- The CLOSE of the bank that the compressor of `d` holds, sent. -/
def closeSent (x d : Controller) : Controller :=
  match d.sched.heldBank with
  | some h =>
    if (d.bank h.bank).holder = some .compressor ∧ (d.bank h.bank).order = none ∧
        (d.bank h.bank).releasePending = false then
      x.orders plantPort 0x50 [BitVec.ofNat 8 (h.bank.val + 1), 0x07, 0x02, (d.bank h.bank).generation, 0, 0, 0]
    else x
  | none => x

theorem refillEnds_eq (d : Controller) (next : CompressorState) :
    d.refillEnds next = (d.stopSent.closeSent d).refillOver d next d.sched.stallCount
      (d.port plantPort).tagCounter (d.stopSent.port plantPort).tagCounter := rfl

theorem Lags.stopping {k : Nat} {late : Late} {c d : Controller} (h : c.Lags (k + 1) late d) :
    c.stopping.Lags k late d.stopSent := by
  unfold Controller.stopping stopSent
  rw [h.sched]
  cases horder : d.sched.order with
  | none =>
    rw [if_pos rfl]
    exact h.order 0x51 _ fun _ => rfl
  | some o =>
    rw [if_neg (by simp)]
    dsimp only
    rw [setPort_port]
    exact h.fewer (by omega)

theorem Lags.shutting {k : Nat} {late : Late} {c d x y : Controller} (h : c.Lags k late d)
    (hx : x.Lags (k + 1) late y) : (x.shutting c).Lags k late (y.closeSent d) := by
  unfold Controller.shutting closeSent
  rw [h.sched]
  cases d.sched.heldBank with
  | none =>
    dsimp only
    rw [setPort_port]
    exact hx.fewer (by omega)
  | some b =>
    have hbank : c.bank b.bank = d.bank b.bank := by rw [h.rest]; rfl
    dsimp only
    rw [hbank]
    split
    · exact hx.order 0x50 _ fun _ => rfl
    · rw [setPort_port]
      exact hx.fewer (by omega)

/-- The image of a refill that has ended. -/
theorem Lags.refillOver {k : Nat} {late : Late} {c d : Controller} (h : c.Lags (k + 2) late d)
    (next : CompressorState) :
    ((c.stopping.shutting c).refillOver c next c.sched.stallCount (c.port plantPort).tagCounter
      (c.stopping.port plantPort).tagCounter).Lags k late (d.refillEnds next) := by
  have hstopping := h.stopping
  have hover : ∀ (x : Controller) n stop close, x.refillOver c next n stop close = x.refillOver d next n stop close := by
    rw [h.rest]
    exact fun _ _ _ _ => rfl
  rw [refillEnds_eq, hover, h.sched, h.tagCounter, hstopping.tagCounter]
  exact ((h.fewer (by omega)).shutting hstopping).map (fun x => x.refillOver d next d.sched.stallCount
    (d.port plantPort).tagCounter (d.stopSent.port plantPort).tagCounter) fun _ _ => rfl

/-- R41, R73: the same where no CLOSE of the bank held goes out. -/
theorem Lags.refillOver_unfreed {k : Nat} {late : Late} {c d : Controller} (h : c.Lags (k + 1) late d)
    (hnot : ∀ b ∈ d.sched.heldBank, ¬ (d.bank b.bank).freedNow .compressor) (next : CompressorState) :
    ((c.stopping.shutting c).refillOver c next c.sched.stallCount (c.port plantPort).tagCounter
      (c.stopping.port plantPort).tagCounter).Lags k late (d.refillEnds next) := by
  have hstopping := h.stopping
  have hshut : c.stopping.shutting c = c.stopping := by
    unfold Controller.shutting
    rw [h.sched]
    cases hheld : d.sched.heldBank with
    | none => exact setPort_port _ _
    | some b =>
      have hbank : c.bank b.bank = d.bank b.bank := by rw [h.rest]; rfl
      have hkept : ¬ ((d.bank b.bank).holder = some .compressor ∧ (d.bank b.bank).order = none ∧
        (d.bank b.bank).releasePending = false) := hnot b hheld
      dsimp only
      rw [hbank, if_neg hkept]
      exact setPort_port _ _
  have hclosed : d.stopSent.closeSent d = d.stopSent := by
    unfold closeSent
    cases hheld : d.sched.heldBank with
    | none => rfl
    | some b => exact if_neg (hnot b hheld)
  have hover : ∀ (x : Controller) n stop close, x.refillOver c next n stop close = x.refillOver d next n stop close := by
    rw [h.rest]
    exact fun _ _ _ _ => rfl
  rw [refillEnds_eq, hshut, hclosed, hover, h.sched, h.tagCounter, hstopping.tagCounter]
  exact hstopping.map (fun x => x.refillOver d next d.sched.stallCount
    (d.port plantPort).tagCounter (d.stopSent.port plantPort).tagCounter) fun _ _ => rfl

/-- A stall count in place of the one there is. -/
def stalled (c : Controller) (n : Nat) : Controller := { c with sched := { c.sched with stallCount := n } }

/-- The compressor, its refill over, has a run order in flight, and runs no start attempt. -/
theorem refillOver_busy (x c : Controller) (n : Nat) (stop close : Octet) :
    (x.refillOver c .stopped n stop close).busy := by
  refine .inr (.inr (.inl ?_))
  unfold refillOver
  cases c.sched.order <;> simp

/-- R73: what follows a refill that ends with nobody waiting for precool: the pass and the start attempt find nothing to
do. -/
theorem LeadsTo.refillOver {k n : Nat} {late : Late} {c d : Controller} {why : RefillEnd} (hnext : why.next = .stopped)
    (himage : ((c.stopping.shutting c).refillOver c why.next n (c.port plantPort).tagCounter
      (c.stopping.port plantPort).tagCounter).Lags k late d)
    (hlist : c.alloc.precoolList = []) (hclaim : c.alloc.compressorClaim = none) :
    LeadsTo 2 k late ((if c.alloc.compressorHeld = true then [Event.grantPass false] else []) ++
        if why.next = .stopped then [.startAttempt] else [])
      ((c.stopping.shutting c).refillOver c why.next n (c.port plantPort).tagCounter
        (c.stopping.port plantPort).tagCounter) d := by
  rw [hnext] at himage ⊢
  rw [if_pos rfl]
  have hattempt : LeadsTo 1 k late [.startAttempt] ((c.stopping.shutting c).refillOver c .stopped n
      (c.port plantPort).tagCounter (c.stopping.port plantPort).tagCounter) d :=
    LeadsTo.skip (fun v => startAttempt_busy _ (refillOver_busy { c.stopping.shutting c with owed := v } c n _ _))
      (LeadsTo.nil himage)
  split
  · exact LeadsTo.append (Leads.pass (c := (c.stopping.shutting c).refillOver c .stopped n _ _) hlist hclaim) le_rfl
      hattempt
  · exact hattempt.more (by omega)

/-- The events that wait are no matter of a refill's end. -/
theorem stopping_owed (y : Controller) (v : List Event) :
    ({ y with owed := v }).stopping = { y.stopping with owed := v } := rfl

theorem shutting_owed (x y : Controller) (v : List Event) :
    ({ x with owed := v }).shutting { y with owed := v } = { x.shutting y with owed := v } := rfl

theorem refillOver_owed (x y : Controller) (v : List Event) (next : CompressorState) (n : Nat) (stop close : Octet) :
    ({ x with owed := v }).refillOver { y with owed := v } next n stop close =
      { x.refillOver y next n stop close with owed := v } := rfl

theorem endRefill_owed (y : Controller) (v : List Event) (why : RefillEnd) (hlink : why ≠ .plantLink)
    (hisolated : why ≠ .isolated) :
    ({ y with owed := v }).endRefill why =
      ⟨{ (y.stopping.shutting y).refillOver y why.next (if why = .full then 0 else y.sched.stallCount)
          (y.port plantPort).tagCounter (y.stopping.port plantPort).tagCounter with owed := v },
        (if y.alloc.compressorHeld = true then [Event.grantPass false] else []) ++
          if why.next = .stopped then [.startAttempt] else []⟩ := by
  rw [endRefill_eq _ why hlink hisolated, stopping_owed, shutting_owed, refillOver_owed]
  rfl

/-- R73: an event that ends the refill of `y` in STOPPED. -/
theorem LeadsTo.refillEnd {k : Nat} {late : Late} {c y d : Controller} {e : Event} {why : RefillEnd}
    (he : ∀ v, ({ c with owed := v }).handle e = ({ y with owed := v }).endRefill why)
    (himage : ((y.stopping.shutting y).refillOver y why.next (if why = .full then 0 else y.sched.stallCount)
      (y.port plantPort).tagCounter (y.stopping.port plantPort).tagCounter).Lags k late d)
    (hlist : y.alloc.precoolList = []) (hclaim : y.alloc.compressorClaim = none)
    (hlink : why ≠ .plantLink) (hisolated : why ≠ .isolated) (hnext : why.next = .stopped) :
    LeadsTo 3 k late [e] c d := by
  have hover := LeadsTo.refillOver hnext himage hlist hclaim
  refine LeadsTo.cons (c := c) (x := (y.stopping.shutting y).refillOver y why.next
      (if why = .full then 0 else y.sched.stallCount) (y.port plantPort).tagCounter (y.stopping.port plantPort).tagCounter)
    (told := (if y.alloc.compressorHeld = true then [Event.grantPass false] else []) ++
        if why.next = .stopped then [.startAttempt] else [])
    (fun v => (he v).trans (y.endRefill_owed v why hlink hisolated)) ?_
  rwa [List.append_nil]

theorem orders_owed (c : Controller) (p : PortId) (kind : Octet) (body : List Octet) :
    (c.orders p kind body).owed = c.owed := by
  rw [orders_eq]
  rfl

theorem refillEnds_owed (d : Controller) (next : CompressorState) : (d.refillEnds next).owed = d.owed := by
  have hstop : d.stopSent.owed = d.owed := by
    unfold stopSent
    split
    · exact d.orders_owed _ _ _
    · rfl
  have hclose : ∀ x : Controller, (x.closeSent d).owed = x.owed := fun x => by
    unfold closeSent
    split
    · split
      · exact x.orders_owed _ _ _
      · rfl
    · rfl
  exact (hclose _).trans hstop

/-- R73: the bank being refilled, at or above its stop threshold, ends the refill. -/
theorem judgeQueue_refilled (c : Controller) (b : BankId) (e : SampleEntry) (hfull : c.fills b e)
    (hclaim : c.sched.claimPending ≠ some b) (hrefill : c.sched.refillBank = some b ∧ c.sched.refilling = true) :
    (c.sampled b e).judgeQueue b =
      ((c.sampled b e).queueing (c.sched.queue.filter fun u => u != b)).endRefill .full := by
  rw [judgeQueue_at_stop (p := min e.pressure.toNat 120000) (by rw [bank_sampled]) (by rw [tier_sampled]; exact hfull),
    leaveQueue_plain (c.sampled b e) b hclaim]
  exact congrArg (fun x : Eff => (⟨x.ctl, [] ++ x.events⟩ : Eff)) (if_pos hrefill)

/-- R33, R73: the entry of the bank being refilled, with nobody waiting for a bank or for precool. -/
theorem LeadsTo.entry_refilled {k : Nat} {late : Late} {c d : Controller} {e : SampleEntry} {b : BankId}
    (h : c.Lags (k + 2) late d) (hlist : d.alloc.bankList = []) (hfull : d.fills b e)
    (hclaim : d.sched.claimPending ≠ some b) (hrefill : d.sched.refillBank = some b ∧ d.sched.refilling = true)
    (hprecool : d.alloc.precoolList = []) (hcomp : d.alloc.compressorClaim = none) :
    LeadsTo 5 k late [.bankSampleEntry b (clampPressure e.pressure) (clampTemperature e.temperature)] c
      ((((d.sampled b e).queueing (d.sched.queue.filter fun u => u != b)).stalled 0).refillEnds .stopped) := by
  have himage := (h.sampled b e).queueing (d.sched.queue.filter fun u => u != b)
  have hcfull : c.fills b e := by rw [h.rest]; exact hfull
  have hjudged : LeadsTo 3 k late [.bankSampled b] (c.sampled b e)
      ((((d.sampled b e).queueing (d.sched.queue.filter fun u => u != b)).stalled 0).refillEnds .stopped) := by
    rw [← h.sched] at hclaim hrefill himage ⊢
    have hover := (himage.map (fun x => x.stalled 0) fun _ _ => rfl).refillOver .stopped
    rw [← h.alloc] at hprecool hcomp
    exact LeadsTo.refillEnd (c := c.sampled b e) (e := .bankSampled b) (why := .full)
      (y := (c.sampled b e).queueing (c.sched.queue.filter fun u => u != b))
      (fun v => judgeQueue_refilled { c with owed := v } b e hcfull hclaim hrefill) hover hprecool hcomp (by decide)
      (by decide) rfl
  have hnone : (c.sampled b e).alloc.bankList = [] := by
    rw [← h.alloc] at hlist
    exact hlist
  refine LeadsTo.cons (c := c) (x := c.sampled b e)
    (told := (if (c.bank b).state = .idle then [Event.grantScan] else []) ++ [.bankSampled b]) (fun v => rfl) ?_
  rw [List.append_nil]
  split
  · exact LeadsTo.append (Leads.scan hnone) le_rfl hjudged
  · exact hjudged.more (by omega)

end Controller
end Sys2Proof.Machine
end

section
/-! R33, R66, R73: a BANK_SAMPLE of one entry. -/

namespace Sys2Proof.Machine

theorem wellFormed_oneSample (tag : Octet) (e : SampleEntry) :
    Instr.wellFormed (.bankSample plantPort tag [e] []) = true := rfl

/-- R33: a BANK_SAMPLE of one entry that can be taken. -/
theorem exec_bankSample_one (s : State) (tag : Octet) (e : SampleEntry) (rest : List Telegram) (h : s.ctl.atRest)
    (ha : s.ctl.told plantPort ⟨0x30, tag, SampleEntry.field e⟩ rest) (ht : s.ctl.TakesSamples [e])
    (hroom : s.ctl.sched.state = .stopped → s.ctl.roomFor plantPort 2) :
    exec (.bankSample plantPort tag [e] []) s =
      .next (s.withCtl ((s.ctl.taken plantPort rest).sampledBank e)) :=
  exec_bankSample s tag [e] [] rest h rfl (by simpa using ha) ht hroom

/-- An entry of a bank that it does not fill can be taken. -/
theorem Controller.takesSamples_unfilled {c : Controller} {e : SampleEntry} {b : BankId}
    (hb : c.bankNamed e.bank = some b) (hfull : ¬ c.fills b e) (hlist : c.alloc.bankList = [])
    (hmay : c.sched.state = .stopped → c.mayAttempt) : c.TakesSamples [e] := by
  have hnone : ∀ u ∈ [e], ∀ d, ¬ c.fillsNamed u d := fun u hu d hd => by
    rw [List.mem_singleton.mp hu] at hd
    obtain ⟨hname, hfills⟩ := hd
    rw [hb] at hname
    cases hname
    exact hfull hfills
  exact ⟨hlist, fun u hu d hd => absurd hd (hnone u hu d), fun hs => ⟨hmay hs, fun u hu d hd => absurd hd (hnone u hu d)⟩⟩

/-- R33: an entry that names no configured bank. -/
theorem exec_bankSample_unnamed (s : State) (tag : Octet) (e : SampleEntry) (rest : List Telegram) (h : s.ctl.atRest)
    (ha : s.ctl.told plantPort ⟨0x30, tag, SampleEntry.field e⟩ rest) (hb : s.ctl.bankNamed e.bank = none) :
    exec (.bankSample plantPort tag [e] []) s = .next (s.withCtl (s.ctl.taken plantPort rest)) := by
  have hevents : (s.ctl.taken plantPort rest).sampleEvents [e] = [] := by
    have hnone : (s.ctl.taken plantPort rest).bankNamed e.bank = none := hb
    simp [Controller.sampleEvents, hnone]
  have htaken := Controller.atRest.taken h rest
  obtain ⟨hpermitted, -⟩ := bankSample_permitted (wellFormed_oneSample tag e)
  simp only [exec, execBankSample, State.report, telegramOf, State.does]
  rw [s.ctl.perform_told (s.ctl.taken plantPort rest) (s.ctl.taken plantPort rest) _ rest _ 0 [] h (by simpa using ha) hpermitted rfl
    (congrArg (Eff.mk _) hevents) h.2.1 (Controller.Leads.nil _) (by omega) h.2.1,
    Controller.settleLines_of_served _ htaken.2.2.1]

/-- R73: an entry that ends the refill. -/
theorem exec_bankSample_full (s : State) (tag : Octet) (e : SampleEntry) (b : BankId) (rest : List Telegram)
    (h : s.ctl.atRest) (ha : s.ctl.told plantPort ⟨0x30, tag, SampleEntry.field e⟩ rest)
    (hroom : s.ctl.roomFor plantPort 2) (hb : s.ctl.bankNamed e.bank = some b) (hlist : s.ctl.alloc.bankList = [])
    (hfull : s.ctl.fills b e) (hprecool : s.ctl.alloc.precoolList = []) (hcomp : s.ctl.alloc.compressorClaim = none)
    (hrefill : s.ctl.sched.refillBank = some b ∧ s.ctl.sched.refilling = true)
    (hclaim : s.ctl.sched.claimPending = none) :
    exec (.bankSample plantPort tag [e] []) s = .next (s.withCtl
      (((((s.ctl.taken plantPort rest).sampled b e).queueing (s.ctl.sched.queue.filter fun u => u != b)).stalled
        0).refillEnds .stopped)) := by
  have htaken := Controller.atRest.taken h rest
  have hevents : (s.ctl.taken plantPort rest).sampleEvents [e] =
      [.bankSampleEntry b (clampPressure e.pressure) (clampTemperature e.temperature)] := by
    have hnamed : (s.ctl.taken plantPort rest).bankNamed e.bank = some b := hb
    simp [Controller.sampleEvents, hnamed]
  obtain ⟨hpermitted, -⟩ := bankSample_permitted (wellFormed_oneSample tag e)
  have hlags := Controller.atRest.lags htaken (k := 0 + 2) (Controller.roomFor_taken hroom rest)
  obtain ⟨y, n, hn, hl, himage⟩ := Controller.LeadsTo.entry_refilled hlags hlist hfull (by
    show s.ctl.sched.claimPending ≠ some b
    rw [hclaim]
    simp) hrefill hprecool hcomp
  have howed := (Controller.refillEnds_owed ((((s.ctl.taken plantPort rest).sampled b e).queueing
    (s.ctl.sched.queue.filter fun u => u != b)).stalled 0) .stopped).trans h.2.1
  simp only [exec, execBankSample, State.report, telegramOf, State.does]
  rw [s.ctl.perform_told (s.ctl.taken plantPort rest) y _ rest _ n _ h (by simpa using ha) hpermitted rfl
    (congrArg (Eff.mk _) hevents) h.2.1 hl (by omega) (himage.owed.symm.trans howed), himage.settled]
  rfl

end Sys2Proof.Machine

open Sys2Proof Sys2Proof.Machine in
/-- Settles O37: every entry is one sample of its bank with what it causes, by induction over the entries; the forms of
one entry are read off from it, and the entry that ends the refill stands by itself. -/
theorem bankSample : Obligations.bank_sample := by
  unfold Obligations.bank_sample
  refine ⟨fun s tag e b rest h ha => ?_, fun s tag e b rest h ha hroom => ?_, fun s tag l x rest h hform ha => ?_⟩
  · intro c
    refine ⟨fun hout => exec_bankSample_unnamed s tag e rest h ha (Controller.bankNamed_none _ _ hout),
      fun hbank hb hlist hclaim hstate => ?_⟩
    have hnamed : (s.ctl.taken plantPort rest).bankNamed e.bank = some b := s.ctl.bankNamed_of e.bank b hbank hb
    have hresting : s.ctl.sched.state ≠ .stopped ∧ s.ctl.sched.refilling = false := by
      rcases hstate with hs | hs | hs <;> simp [Scheduler.refilling, show s.ctl.sched.state = _ from hs]
    obtain ⟨hstopped, hrefilling⟩ := hresting
    intro pressure rank stored queue
    have htakes : s.ctl.TakesSamples [e] := by
      refine ⟨hlist, fun u _ d _ => ⟨?_, by simp [hrefilling]⟩, fun hs => absurd hs hstopped⟩
      rw [show s.ctl.sched.claimPending = none from hclaim]
      simp
    rw [exec_bankSample_one s tag e rest h ha htakes fun hs => absurd hs hstopped]
    refine congrArg (fun d => Host.Outcome.next (s.withCtl d)) ?_
    have hbusy : ∀ d : Controller, d.sched.state = s.ctl.sched.state → d.attempts = d := fun d hd =>
      d.attempts_busy (.inl (hd ▸ hstopped))
    by_cases hfull : (s.ctl.taken plantPort rest).fills b e
    · have hqueue : queue = s.ctl.sched.queue.filter fun u => u != b := if_pos hfull
      rw [Controller.sampledBank_fills hnamed hfull, hqueue]
      rfl
    by_cases hjoins : (s.ctl.taken plantPort rest).joins b e
    · have hqueue : queue = s.ctl.joinedQueue b := (if_neg hfull).trans (if_pos hjoins)
      rw [Controller.sampledBank_joins hnamed hfull hjoins, hqueue]
      exact hbusy (((s.ctl.taken plantPort rest).sampled b e).queueing ((s.ctl.taken plantPort rest).joinedQueue b)) rfl
    have hqueue : queue = s.ctl.sched.queue := (if_neg hfull).trans (if_neg hjoins)
    by_cases hqueued : b ∈ (s.ctl.taken plantPort rest).sched.queue ∧ ((s.ctl.taken plantPort rest).bank b).state = .idle
    · rw [Controller.sampledBank_queued hnamed hfull hjoins hqueued, hqueue]
      exact hbusy ((s.ctl.taken plantPort rest).sampled b e) rfl
    · rw [Controller.sampledBank_stays hnamed hfull hjoins hqueued, hqueue]
      rfl
  · intro c hbank hb hlist
    have hnamed := s.ctl.bankNamed_of e.bank b hbank hb
    refine ⟨fun hfull hmay hlow hout hstate => ?_, fun hfull hmay hin hidle => ?_,
      fun hfull hprecool hcomp hrefill hrefilling hclaim => ?_⟩
    · rw [exec_bankSample_one s tag e rest h ha (Controller.takesSamples_unfilled hnamed hfull hlist fun _ => hmay)
        fun _ => hroom]
      rw [Controller.sampledBank_joins (c := s.ctl.taken plantPort rest) hnamed hfull ⟨hlow, hout, hstate⟩]
      rfl
    · rw [exec_bankSample_one s tag e rest h ha (Controller.takesSamples_unfilled hnamed hfull hlist fun _ => hmay)
        fun _ => hroom]
      rw [Controller.sampledBank_queued (c := s.ctl.taken plantPort rest) hnamed hfull
        (fun hjoins => hjoins.2.1 hin) ⟨hin, hidle⟩]
      rfl
    · exact exec_bankSample_full s tag e b rest h ha hroom hnamed hlist hfull hprecool hcomp ⟨hrefill, hrefilling⟩ hclaim
  · intro c full resting claiming hlist hcase
    have hfills : ∀ e ∈ l, ∀ b, c.fillsNamed e b → full e b := fun e _ b hb => by
      obtain ⟨hname, hfull⟩ := hb
      obtain ⟨hnumber, hconf⟩ := Controller.bankNamed_some hname
      exact ⟨hnumber, hconf, hfull⟩
    rcases hcase with ⟨hstate, hclaim, hrefill⟩ | ⟨hmay, hroom, hothers⟩
    · refine exec_bankSample s tag l x rest h hform ha
        ⟨hlist, fun e he b hb => ⟨?_, fun hr => hrefill hr.2 e he b (hfills e he b hb) hr.1⟩,
          fun hs => absurd hs hstate⟩ fun hs => absurd hs hstate
      rw [hclaim]
      simp
    · refine exec_bankSample s tag l x rest h hform ha
        ⟨hlist, fun e he b hb => ⟨?_, fun hr => (hothers e he b (hfills e he b hb)).2 hr.1⟩,
          fun _ => ⟨hmay, fun e he b hb => (hothers e he b (hfills e he b hb)).1⟩⟩ fun _ => hroom
      rw [hmay.2.1.1]
      simp
end

-- Storage banks: isolation (R43, R44, R127).
section
/-! Log entry 4: what an event causes is told, never put among the events that wait by the operation itself. -/

namespace Sys2Proof.Machine
namespace Controller

variable {c : Controller}

/-! ## Orders, records and contexts -/

@[simp] theorem handOrder_owed (p : PortId) (kind : Octet) (body : List Octet) :
    (c.handOrder p kind body).1.owed = c.owed := by
  rw [handOrder_eq]
  rfl

@[simp] theorem notice_owed (p : PortId) (kind : Octet) (body : List Octet) : (c.notice p kind body).owed = c.owed := by
  rcases c.handNotice_cases p kind body with ⟨-, h⟩ | ⟨-, h⟩ <;> rw [notice, h]
  rfl

@[simp] theorem updRecordOf_owed (n : Nozzle) (f : Record → Record) : (c.updRecordOf n f).owed = c.owed := by
  rw [updRecordOf_eq]

@[simp] theorem handNotice_owed (p : PortId) (kind : Octet) (body : List Octet) :
    (c.handNotice p kind body).1.owed = c.owed := c.notice_owed p kind body

@[simp] theorem judgeNotice_owed : c.judgeNotice.owed = c.owed := by
  unfold judgeNotice
  split <;> [skip; split <;> [skip; split]] <;> simp

@[simp] theorem oweNotice_owed : c.oweNotice.owed = c.owed := by simp [oweNotice]

@[simp] theorem ringTillUp_owed : c.ringTillUp.owed = c.owed := by
  unfold ringTillUp
  split <;> simp

@[simp] theorem driveFlow_owed (n : Nozzle) : (c.driveFlow n).owed = c.owed := by
  unfold driveFlow
  dsimp only
  split <;> [skip; split] <;> simp

@[simp] theorem ventIfShut_owed (n : Nozzle) : (c.ventIfShut n).owed = c.owed := by
  unfold ventIfShut
  dsimp only
  split <;> simp [orderVent]

@[simp] theorem noticeEnded_owed (n : Nozzle) : (c.noticeEnded n).owed = c.owed := by
  unfold noticeEnded
  split <;> simp

@[simp] theorem closeRecord_owed (n : Nozzle) : (c.closeRecord n).owed = c.owed := by
  unfold closeRecord
  split <;> [skip; split] <;> simp [addToTotals]

@[simp] theorem closeFill_owed (n : Nozzle) : (c.closeFill n).owed = c.owed := by simp [closeFill]

@[simp] theorem settleEnding_owed (n : Nozzle) : (c.settleEnding n).owed = c.owed := by
  unfold settleEnding
  dsimp only
  split <;> simp

@[simp] theorem dropBank_owed (n : Nozzle) (pressure : Option Nat) : (c.dropBank n pressure).owed = c.owed := by
  simp [dropBank]

@[simp] theorem openSegment_owed (n : Nozzle) (ref : BankRef) (pressure : Option Nat) :
    (c.openSegment n ref pressure).owed = c.owed := by
  simp [openSegment]

@[simp] theorem addCause_owed (n : Nozzle) (k : HoldCause) : (c.addCause n k).owed = c.owed := by
  unfold addCause
  split <;> simp

@[simp] theorem removeCause_owed (n : Nozzle) (k : HoldCause) : (c.removeCause n k).owed = c.owed := by
  simp [removeCause_eq]

@[simp] theorem valveOpened_owed (n : Nozzle) (b : BankId) : (c.valveOpened n b).owed = c.owed := by
  unfold valveOpened
  dsimp only
  split
  · rfl
  · split <;> split <;> simp [startPulse]

@[simp] theorem takeClass_owed (new : PrecoolClass) (n : Nozzle) : (c.takeClass new n).owed = c.owed := by
  unfold takeClass
  dsimp only
  split <;> [(split <;> [split; split; skip; skip]); skip] <;> simp [degrade, takeEntry]

theorem classChanged_owed (new : PrecoolClass) : (c.classChanged new).owed = c.owed := by
  have walked : ∀ (l : List Nozzle) (d : Controller), (l.foldl (fun d n => d.takeClass new n) d).owed = d.owed :=
    fun l => by
      induction l with
      | nil => exact fun _ => rfl
      | cons n l ih => exact fun d => (ih _).trans (takeClass_owed new n)
  exact walked _ c

/-! ## The Allocator and the Scheduler -/

@[simp] theorem handValve_owed (b : BankId) (route : Holder) (action : Valve) :
    (c.handValve b route action).owed = c.owed := by
  rw [handValve_eq]
  rfl

@[simp] theorem grantBank_owed (b : BankId) (who : Holder) : (c.grantBank b who).owed = c.owed := by
  simp [grantBank]

@[simp] theorem releaseBank_owed (b : BankId) (who : Holder) : (c.releaseBank b who).owed = c.owed := by
  by_cases h : (c.bank b).freedNow who
  · rw [releaseBank_freed c b who h]
    rfl
  · rw [releaseBank_unfreed c b who h]
    rfl

@[simp] theorem precoolRequest_owed (k : PrecoolClaim) : (c.precoolRequest k).ctl.owed = c.owed := by
  unfold precoolRequest
  split <;> simp

@[simp] theorem precoolRelease_owed (n : Nozzle) : (c.precoolRelease n).ctl.owed = c.owed := by
  unfold precoolRelease
  split <;> simp

@[simp] theorem placeParked_owed (n : Nozzle) (placed : Bool) : (c.placeParked n placed).ctl.owed = c.owed := by
  unfold placeParked
  split <;> simp

@[simp] theorem releaseCompressor_owed : c.releaseCompressor.ctl.owed = c.owed := by
  unfold releaseCompressor
  split <;> simp

@[simp] theorem bankRequest_owed (k : BankClaim) : (c.bankRequest k).ctl.owed = c.owed := by
  unfold bankRequest
  split <;> [skip; split <;> [skip; split]] <;> simp

@[simp] theorem shedNozzles_owed (l : List Nozzle) : ∀ {c : Controller}, (c.shedNozzles l).ctl.owed = c.owed := by
  induction l with
  | nil => exact rfl
  | cons n l ih =>
    intro c
    unfold shedNozzles
    split <;> simp [ih, shedNozzle]

@[simp] theorem shed_owed : c.shed.ctl.owed = c.owed := by
  unfold shed
  split
  · rfl
  · simp only [Eff.andThen_ctl, shedNozzles_owed]
    split <;> rfl

@[simp] theorem recomputeCapacity_owed : c.recomputeCapacity.ctl.owed = c.owed := by simp [recomputeCapacity]

@[simp] theorem takeDerate_owed (d : Nat) : (c.takeDerate d).ctl.owed = c.owed := by simp [takeDerate]

@[simp] theorem judgeClaim_owed (b : BankId) : (c.judgeClaim b).1.owed = c.owed := by
  unfold judgeClaim
  split <;> [skip; split <;> [skip; split]] <;> simp

@[simp] theorem scanEntries_owed (l : List BankClaim) : ∀ {c : Controller}, (c.scanEntries l).ctl.owed = c.owed := by
  induction l with
  | nil => exact rfl
  | cons k l ih =>
    intro c
    unfold scanEntries
    split <;> simp [ih, grantBankToNozzle]

@[simp] theorem judgePreemption_owed (n : Nozzle) : (c.judgePreemption n).ctl.owed = c.owed := by
  unfold judgePreemption
  dsimp only
  split <;> [skip; split <;> [skip; split <;> [skip; split]]] <;> simp

@[simp] theorem actOnAnswer_owed (b : BankId) (answer : ClaimAnswer) : (c.actOnAnswer b answer).ctl.owed = c.owed := by
  cases answer <;> simp [actOnAnswer, claimGranted, handRun]

@[simp] theorem startAttempt_owed : c.startAttempt.ctl.owed = c.owed := by
  unfold startAttempt
  dsimp only
  split <;> [skip; split <;> [skip; split]] <;> simp

@[simp] theorem withdrawClaim_owed : c.withdrawClaim.owed = c.owed := by
  unfold withdrawClaim
  split <;> simp

@[simp] theorem endPass_owed (placed : Bool) : (c.endPass placed).ctl.owed = c.owed := by
  unfold endPass
  dsimp only
  split <;> split <;> [split; skip; split; skip] <;> simp

@[simp] theorem grantPass_owed (placed : Bool) : (c.grantPass placed).ctl.owed = c.owed := by
  unfold grantPass grantHead
  split
  · rename_i e he
    split at he
    · split at he <;> simp only [Option.some.injEq, reduceCtorEq] at he
      subst he
      rfl
    · cases he
  · simp

@[simp] theorem callStop_owed (b : Option BankId) : (c.callStop b).owed = c.owed := by
  unfold callStop
  split <;> [skip; split] <;> simp [handRun]

@[simp] theorem endRefill_owed_same (why : RefillEnd) : (c.endRefill why).ctl.owed = c.owed := by
  unfold endRefill
  simp only [Eff.tell_ctl, Eff.change_ctl, updSched_owed]
  split
  · simp
  · split <;> [split; skip] <;> simp

@[simp] theorem leaveQueue_owed (b : BankId) : (c.leaveQueue b).ctl.owed = c.owed := by
  unfold leaveQueue
  dsimp only
  split <;> simp

@[simp] theorem judgeQueue_owed (b : BankId) : (c.judgeQueue b).ctl.owed = c.owed := by
  unfold judgeQueue
  dsimp only
  split
  · rfl
  · split
    · simp only [Eff.andThen_ctl]
      split <;> simp
    · dsimp only
      split <;> simp

@[simp] theorem toldIsolated_owed (b : BankId) : (c.toldIsolated b).ctl.owed = c.owed := by
  unfold toldIsolated
  simp only [Eff.andThen_ctl]
  split
  · split <;> [skip; split] <;> simp
  · simp

@[simp] theorem compressorValveOpened_owed : c.compressorValveOpened.owed = c.owed := by
  unfold compressorValveOpened judgeRunning
  split <;> [split; skip] <;> rfl

@[simp] theorem allocatorEndsRefill_owed (why : RefillEnd) : (c.allocatorEndsRefill why).ctl.owed = c.owed := by
  unfold allocatorEndsRefill
  split <;> simp

@[simp] theorem compressorValveFailed_owed (b : BankId) : (c.compressorValveFailed b).ctl.owed = c.owed := by
  simp [compressorValveFailed, goFaulted]

@[simp] theorem compressorReleased_owed (b : BankId) : (c.compressorReleased b).ctl.owed = c.owed := by
  unfold compressorReleased
  split <;> [split; skip] <;> simp

@[simp] theorem takeBanks_owed (moved : List BankId) : (c.takeBanks moved).ctl.owed = c.owed := by
  unfold takeBanks
  dsimp only
  split <;> simp

/-! ## The Sequencer -/

@[simp] theorem setReason_owed (n : Nozzle) (why : EndReason) : (c.setReason n why).owed = c.owed := by simp [setReason]

@[simp] theorem closeWithoutFlow_owed (n : Nozzle) (why : EndReason) : (c.closeWithoutFlow n why).ctl.owed = c.owed := by
  simp [closeWithoutFlow]

@[simp] theorem beginEnding_ctl_owed (n : Nozzle) (why : EndReason) : (c.beginEnding n why).ctl.owed = c.owed :=
  (c.beginEnding_waiting n why).1

@[simp] theorem switchOn_owed (n : Nozzle) : (c.switchOn n).ctl.owed = c.owed := by
  unfold switchOn
  split <;> simp

@[simp] theorem precoolGranted_owed (n : Nozzle) : (c.precoolGranted n).ctl.owed = c.owed := by
  unfold precoolGranted
  split <;> [split; skip; skip; skip; skip; skip; skip; skip; skip] <;> simp

@[simp] theorem nozzleShed_owed (n : Nozzle) : (c.nozzleShed n).ctl.owed = c.owed := by
  unfold nozzleShed
  split <;> simp

@[simp] theorem bankGranted_owed (n : Nozzle) (ref : BankRef) (pressure : Option Nat) :
    (c.bankGranted n ref pressure).ctl.owed = c.owed := by
  unfold bankGranted
  dsimp only
  split <;> [skip; split] <;> simp

@[simp] theorem valveFailed_owed (n : Nozzle) (b : BankId) : (c.valveFailed n b).ctl.owed = c.owed := by
  unfold valveFailed
  dsimp only
  split <;> simp

@[simp] theorem bankSettled_owed (n : Nozzle) : (c.bankSettled n).owed = c.owed := by simp [bankSettled]

@[simp] theorem bankReleased_owed (n : Nozzle) (b : BankId) (pressure : Option Nat) :
    (c.bankReleased n b pressure).ctl.owed = c.owed := by
  unfold bankReleased
  dsimp only
  split
  · split <;> [skip; split; skip] <;> simp
  · simp [clearOutstanding]

@[simp] theorem bankLost_owed (n : Nozzle) (b : BankId) (pressure : Option Nat) :
    (c.bankLost n b pressure).ctl.owed = c.owed := by
  unfold bankLost
  split
  · split <;> simp
  · simp [clearOutstanding]

@[simp] theorem storageLow_owed (n : Nozzle) : (c.storageLow n).ctl.owed = c.owed := by
  unfold storageLow
  split <;> simp

@[simp] theorem cutBank_owed (n : Nozzle) : (c.cutBank n).owed = c.owed := by
  unfold cutBank
  split <;> simp

@[simp] theorem dispenserLost_owed (n : Nozzle) : (c.dispenserLost n).ctl.owed = c.owed := by
  unfold dispenserLost
  dsimp only
  split
  case h_1 | h_2 | h_3 | h_4 | h_5 => simp
  all_goals split <;> simp

theorem portDown_owed {p : PortId} (hp : p ≠ plantPort) : (c.portDown p).ctl.owed = c.owed := by
  unfold portDown handLoss
  rw [if_neg hp]
  split <;> simp

@[simp] theorem takeServiceFlag_owed (n : Nozzle) : (c.takeServiceFlag n).ctl.owed = c.owed := by
  unfold takeServiceFlag
  dsimp only
  split <;> simp [portDown_owed, portOfNozzle_ne_plant n]

@[simp] theorem takeHandOver_owed (k : SettingKey) : (c.takeHandOver k).ctl.owed = c.owed := by
  unfold takeHandOver
  split <;> simp

/-- No event changes the events that wait, but by telling of others. -/
theorem handle_owed (e : Event) : (c.handle e).ctl.owed = c.owed := by
  cases e <;> simp [handle, takeBankSample, grantScan, classChanged_owed]

end Controller
end Sys2Proof.Machine
end

section
/-! R43, R44: the record of an isolated bank, whatever the isolation causes. -/

namespace Sys2Proof.Machine

theorem BankRec.isolate_eq (r : BankRec) : r.isolate = { r with
    state := .isolated, holder := none, order := none, releasePending := false, nextHolder := none
    generation := if r.holder = none then r.generation else r.generation + 1 } := by
  cases h : r.holder <;> simp [BankRec.isolate, h]

/-- What the events of a step leave of a bank that was isolated in it. -/
theorem BankRec.Follows.isolated {r q : BankRec} (h : r.isolate.Follows q) : q = r.isolate := by
  obtain ⟨⟨htier, hpressure, htemperature⟩, htenure, -, hshut, hnext⟩ := h
  obtain ⟨hstate, hholder, hgeneration⟩ := htenure (by simp [BankRec.isolate])
  obtain ⟨horder, hpending⟩ := hshut rfl rfl
  have hnone := hnext (by simp [BankRec.isolate]) (by simp [BankRec.isolate]) rfl
  cases q
  simp_all [BankRec.isolate]

namespace Controller

/-- R35: the bank records at the end of a step follow those its operation left. -/
theorem perform_follows (c : Controller) (f : Controller → Eff) (e : Eff) (h : c.atRest) (hf : f c = e)
    (howed : e.ctl.owed = []) (hes : ∀ x ∈ e.events, x.unsampled = true) :
    BanksFollow e.ctl.alloc.banks (c.perform f).alloc.banks := by
  have hstart : e.owe.TracksBanks e.ctl.alloc.banks :=
    tracksBanks_owe ⟨.refl _, hes⟩ fun x hx => by
      rw [howed] at hx
      cases hx
  have hend : (e.owe.runOwed eventFuel).TracksBanks e.ctl.alloc.banks :=
    runOwed_induct (TracksBanks e.ctl.alloc.banks) (fun d x l hd ho => by
      obtain ⟨hbanks, hd⟩ := hd
      rw [ho] at hd
      exact tracksBanks_owe (handle_follow (c := { d with owed := l }) (hd x List.mem_cons_self) hbanks) fun y hy =>
        hd y (List.mem_cons_of_mem x (by rwa [handle_owed] at hy))) _ _ hstart
  rw [perform, if_pos h.1, c.settle_nil h.2.1, hf]
  exact hend.1

/-- R44: what an isolation leaves of its bank. -/
theorem perform_isolates (c d : Controller) (b : BankId) (f : Controller → Eff) (es : List Event) (h : c.atRest)
    (hf : f c = ⟨d, es⟩) (hbank : d.bank b = (c.bank b).isolate) (howed : d.owed = [])
    (hes : ∀ x ∈ es, x.unsampled = true) : (c.perform f).bank b = { c.bank b with
      state := .isolated, holder := none, order := none, releasePending := false, nextHolder := none
      generation := if (c.bank b).holder = none then (c.bank b).generation else (c.bank b).generation + 1 } := by
  have hfollows := c.perform_follows f _ h hf howed hes b
  have hfrom : (c.bank b).isolate.Follows ((c.perform f).bank b) := hbank ▸ hfollows
  rw [hfrom.isolated, BankRec.isolate_eq]

theorem toldReleased_unsampled (holder : Option Holder) (b : BankId) (pressure : Option Nat) :
    ∀ x ∈ toldReleased holder b pressure, x.unsampled = true := by
  rcases holder with - | - | - <;> simp [toldReleased, Event.unsampled]

theorem claimAgain_unsampled (k : Option BankClaim) : ∀ x ∈ claimAgain k, x.unsampled = true := by
  cases k <;> simp [claimAgain, Event.unsampled]

end Controller

/-- R44: what the isolation tells. -/
def Controller.tellsIsolation (c : Controller) (b : BankId) : List Event :=
  (match (c.bank b).holder with
    | some (.nozzle n) => [Event.bankLost n b (c.bank b).pressure]
    | _ => []) ++ [.bankIsolated b] ++ claimAgain (c.bank b).nextHolder

theorem Controller.isolateBank_eq (c : Controller) (b : BankId) (h : (c.bank b).state ≠ .isolated) :
    c.isolateBank b = ⟨c.setBank b (c.bank b).isolate, c.tellsIsolation b⟩ := by
  unfold Controller.isolateBank Controller.tellsIsolation
  dsimp only
  rw [if_neg h]
  rfl

theorem Controller.tellsIsolation_unsampled (c : Controller) (b : BankId) :
    ∀ x ∈ c.tellsIsolation b, x.unsampled = true := by
  unfold Controller.tellsIsolation
  simp only [List.forall_mem_append]
  refine ⟨⟨?_, by simp [Event.unsampled]⟩, Controller.claimAgain_unsampled _⟩
  split <;> simp [Event.unsampled]

/-- R44: an ISOLATE_BANK of a bank in use, carried out. -/
theorem Controller.carryIsolate_eq (c : Controller) (tag bank : Octet) (b : BankId) (rest : List Telegram)
    (hbank : bank.toNat = b.val + 1) (hb : b.val < c.alloc.bankCount) (hstate : (c.bank b).state ≠ .isolated) :
    (c.carrying plantPort rest).carryIsolate ⟨0x10, tag, [bank]⟩ bank =
      ⟨⟨(c.setBank b (c.bank b).isolate).carrying plantPort rest, c.tellsIsolation b⟩, .ok, []⟩ := by
  rw [Controller.carryIsolate, (c.carrying plantPort rest).bankNamed_of bank b hbank hb]
  exact congrArg (fun e : Eff => e.ok []) ((c.carrying plantPort rest).isolateBank_eq b hstate)

theorem exec_isolateBank_isolates (s : State) (tag bank : Octet) (b : BankId) (rest : List Telegram) (h : s.ctl.atRest)
    (ha : s.ctl.asked plantPort ⟨0x10, tag, [bank]⟩ rest) (hbank : bank.toNat = b.val + 1)
    (hb : b.val < s.ctl.alloc.bankCount) (hstate : (s.ctl.bank b).state ≠ .isolated) :
    ∃ t, exec (.isolateBank plantPort tag bank) s = .next t ∧ t.ctl.bank b = { s.ctl.bank b with
      state := .isolated, holder := none, order := none, releasePending := false, nextHolder := none
      generation := if (s.ctl.bank b).holder = none then (s.ctl.bank b).generation
        else (s.ctl.bank b).generation + 1 } := by
  refine ⟨_, rfl, s.ctl.perform_isolates
    ((s.ctl.setBank b (s.ctl.bank b).isolate).placed rest ⟨0x90, tag, [0x00]⟩) b _ (s.ctl.tellsIsolation b) h ?_ ?_ h.2.1
    (s.ctl.tellsIsolation_unsampled b)⟩
  · dsimp only
    rw [s.ctl.serveRequest_asked plantPort _ rest _ rfl ha]
    refine (s.ctl.answerHead_eq plantPort _ rest _ _ ha.1
      ((if_pos (by rfl)).trans (s.ctl.carryIsolate_eq tag bank b rest hbank hb hstate))).trans ?_
    exact congrArg (fun y => (⟨y, s.ctl.tellsIsolation b⟩ : Eff))
      ((s.ctl.setBank b (s.ctl.bank b).isolate).carrying_answered plantPort rest ⟨0x90, tag, [0x00]⟩ ha.2.1
        (h.2.2.2 plantPort))
  · exact s.ctl.bank_setBank_self b _

theorem exec_valveCloseTimeout_isolates (s : State) (b : BankId) (o : ValveOrder) (h : s.ctl.atRest)
    (ho : (s.ctl.bank b).order = some o) (hclosed : o.action = .closed) (htimer : o.timer.isSome = true) :
    ∃ t, exec (.valveCloseTimeout b) s = .next t ∧ t.ctl.bank b = { s.ctl.bank b with
      state := .isolated, holder := none, order := none, releasePending := false, nextHolder := none
      generation := if (s.ctl.bank b).holder = none then (s.ctl.bank b).generation
        else (s.ctl.bank b).generation + 1 } := by
  have hact : s.ctl.valveTimedOut b .closed = s.ctl.closeTimedOut b o.route := by
    simp only [Controller.valveTimedOut, ho, hclosed, htimer, and_self, if_true]
  refine ⟨_, rfl, s.ctl.perform_isolates _ b _ _ h hact ?_ ?_ fun x hx => ?_⟩
  · rw [Controller.bank, Controller.notice_alloc]
    exact s.ctl.bank_setBank_self b _
  · rw [Controller.notice_owed]
    exact h.2.1
  · simp only [List.mem_append, or_assoc] at hx
    rcases hx with hx | hx | hx
    · exact Controller.toldReleased_unsampled _ _ _ x hx
    · rw [List.mem_singleton.1 hx]
      rfl
    · exact Controller.claimAgain_unsampled _ x hx

end Sys2Proof.Machine
end

section
/-! R109, R127: the isolation of a fill's current bank, as its nozzle is told of it. -/

namespace Sys2Proof.Machine

/-- R128: a context that enters HOLD, its flow not yet driven. -/
def Context.entersHold (x : Context) (k : HoldCause) : Context :=
  { x with
    state := .hold, causes := x.causes.put k true, rampTimer := none, wanted := .closed
    holdTimer := { x.holdTimer with running := true } }

theorem Context.withCause_ramping (x : Context) (k : HoldCause) (tag : Octet) (time : Nat) (h : x.state = .ramping) :
    x.withCause k tag time = { x.entersHold k with
      flowOrder := if x.flow = .opened ∧ x.flowOrder = none
        then x.flowBank.map fun b => ⟨.closed, tag, b.generation, some time⟩ else x.flowOrder } := by
  rw [Context.withCause, h]
  rfl

namespace Controller

/-- R105: a FLOW CLOSE handed to the dispenser of a fill whose flow is OPEN, with no flow order in flight; the line not
yet served. -/
def flowShutting (c : Controller) (n : Nozzle) : Controller :=
  c.setPort (portOfNozzle n) (match (c.ctx n).flow, (c.ctx n).flowOrder, (c.ctx n).flowBank with
    | .opened, none, some b => (c.port (portOfNozzle n)).ordered 0x52 [0x02, b.generation]
    | _, _, _ => c.port (portOfNozzle n))

/-- R105: a fill whose flow is as wanted, or cannot be driven. -/
theorem driveFlow_kept (c : Controller) (n : Nozzle) (x : Context)
    (h : x.wanted = x.flow ∨ x.flowOrder ≠ none ∨ x.flowBank = none) :
    ({ c with contexts := c.contexts.set n x }).driveFlow n = { c with contexts := c.contexts.set n x } := by
  have hctx : ({ c with contexts := c.contexts.set n x } : Controller).ctx n = x := by simp [ctx]
  rw [driveFlow, hctx]
  dsimp only
  split
  · rfl
  · rename_i hdue
    rw [not_or, Option.not_isSome_iff_eq_none] at hdue
    rcases h with h | h | h
    · exact absurd h hdue.1
    · exact absurd hdue.2 h
    · rw [h]

/-- R128: a fill in RAMPING as a cause reaches it. -/
theorem addCause_ramping (c : Controller) (n : Nozzle) (k : HoldCause) (h : (c.ctx n).state = .ramping) :
    c.addCause n k = { c.flowShutting n with
      contexts := c.contexts.set n ((c.ctx n).withCause k (c.port (portOfNozzle n)).tagCounter c.orderTime) } := by
  have hheld : c.addCause n k =
      ({ c with contexts := c.contexts.set n ((c.ctx n).entersHold k) } : Controller).driveFlow n := by
    unfold addCause
    rw [h]
    rfl
  rw [hheld, Context.withCause_ramping _ k _ _ h, flowShutting]
  cases horder : (c.ctx n).flowOrder with
  | some o =>
    rw [c.driveFlow_kept n ((c.ctx n).entersHold k) (.inr (.inl (by simp [Context.entersHold, horder])))]
    cases (c.ctx n).flow <;> simp [Context.entersHold, horder, setPort_port]
  | none =>
    cases hflow : (c.ctx n).flow with
    | closed =>
      rw [c.driveFlow_kept n ((c.ctx n).entersHold k) (.inl hflow.symm)]
      simp [Context.entersHold, horder, setPort_port]
    | opened =>
      cases hbank : (c.ctx n).flowBank with
      | none =>
        rw [c.driveFlow_kept n ((c.ctx n).entersHold k) (.inr (.inr hbank))]
        simp [Context.entersHold, horder, setPort_port]
      | some b =>
        rw [c.driveFlow_set n ((c.ctx n).entersHold k) b (by simp [Context.entersHold, hflow]) horder hbank]
        simp [Context.entersHold, flowBody, Valve.code]

theorem addCause_hold (c : Controller) (n : Nozzle) (k : HoldCause) (h : (c.ctx n).state = .hold) :
    c.addCause n k = { c with
      contexts := c.contexts.set n ((c.ctx n).withCause k (c.port (portOfNozzle n)).tagCounter c.orderTime) } := by
  have hcause : ∀ tag time, (c.ctx n).withCause k tag time = { c.ctx n with causes := (c.ctx n).causes.put k true } :=
    fun _ _ => by simp only [Context.withCause, h]
  have hadded : c.addCause n k = c.updCtx n fun x => { x with causes := x.causes.put k true } := by
    simp only [addCause, h]
  rw [hcause, hadded]
  rfl

/-- R127, R128: a fill in LEAK_CHECK, RAMPING or HOLD without its current bank: its segment is closed, and one that was
RAMPING holds. -/
def losesBank (c : Controller) (n : Nozzle) (a : Authorisation) (ref : BankRef) (pressure : Option Nat) : Controller :=
  { (if (c.ctx n).state = .ramping then c.flowShutting n else c) with
    contexts := c.contexts.set n
      { (c.ctx n).withCause .bankSwitch (c.port (portOfNozzle n)).tagCounter c.orderTime with
        currentBank := none, lastBank := some ref }
    ring := { c.ring with records := changed a.seq (Record.closing pressure) c.ring.records } }

theorem dropBank_eq (c : Controller) (n : Nozzle) (a : Authorisation) (pressure : Option Nat)
    (ha : (c.ctx n).auth = some a) : c.dropBank n pressure = { c with
      contexts := c.contexts.set n { c.ctx n with currentBank := none, lastBank := (c.ctx n).currentBank }
      ring := { c.ring with records := changed a.seq (Record.closing pressure) c.ring.records } } := by
  have hclosing : (fun r : Record => { r with
      segments := modifyLast (fun g : Segment => { g with closePressure := pressure }) r.segments }) =
      Record.closing pressure := by
    funext r
    rw [modifyLast_eq]
    rfl
  rw [dropBank, updRecordOf_eq, c.recordsWith_auth n a _ ha, hclosing]
  rfl

theorem dropBank_set (x c : Controller) (n : Nozzle) (y : Context) (a : Authorisation) (pressure : Option Nat)
    (ha : y.auth = some a) : ({ x with contexts := c.contexts.set n y }).dropBank n pressure = { x with
      contexts := c.contexts.set n { y with currentBank := none, lastBank := y.currentBank }
      ring := { x.ring with records := changed a.seq (Record.closing pressure) x.ring.records } } := by
  have hctx : ({ x with contexts := c.contexts.set n y } : Controller).ctx n = y := by simp [ctx]
  rw [dropBank_eq _ n a pressure (by rw [hctx]; exact ha), hctx]
  simp

/-- R127: what a fill makes of the loss of its bank. -/
theorem bankLost_eq (c : Controller) (n : Nozzle) (a : Authorisation) (ref : BankRef) (pressure : Option Nat)
    (ha : (c.ctx n).auth = some a) (href : (c.ctx n).currentBank = some ref) :
    ((c.ctx n).state = .leakCheck → c.bankLost n ref.bank pressure =
      (c.losesBank n a ref pressure).beginEnding n .leakCheckInterrupted) ∧
    ((c.ctx n).state = .ramping ∨ (c.ctx n).state = .hold → c.bankLost n ref.bank pressure =
      (c.losesBank n a ref pressure).switchOn n) := by
  have hdraws : (c.ctx n).draws ref.bank = true := by simp [Context.draws, href]
  refine ⟨fun hstate => ?_, fun hstate => ?_⟩
  · have hsame : c.losesBank n a ref pressure = c.dropBank n pressure := by
      rw [c.dropBank_eq n a pressure ha, losesBank, if_neg (by simp [hstate]), Context.withCause, hstate, href]
    rw [bankLost, if_pos hdraws, hstate, hsame]
  · have hswitch : c.bankLost n ref.bank pressure = ((c.addCause n .bankSwitch).dropBank n pressure).switchOn n := by
      rw [bankLost, if_pos hdraws]
      rcases hstate with h | h <;> rw [h]
    have hheld : c.addCause n .bankSwitch = { (if (c.ctx n).state = .ramping then c.flowShutting n else c) with
        contexts := c.contexts.set n
          ((c.ctx n).withCause .bankSwitch (c.port (portOfNozzle n)).tagCounter c.orderTime) } := by
      rcases hstate with h | h
      · rw [if_pos h]
        exact c.addCause_ramping n _ h
      · rw [if_neg (by simp [h])]
        exact c.addCause_hold n _ h
    have hkept : ((c.ctx n).withCause .bankSwitch (c.port (portOfNozzle n)).tagCounter c.orderTime).auth = some a ∧
        ((c.ctx n).withCause .bankSwitch (c.port (portOfNozzle n)).tagCounter c.orderTime).currentBank = some ref := by
      rcases hstate with h | h <;> simp [Context.withCause, h, ha, href]
    have hring : (if (c.ctx n).state = .ramping then c.flowShutting n else c).ring = c.ring := by split <;> rfl
    rw [hswitch, hheld, dropBank_set _ c n _ a pressure hkept.1, hring, hkept.2]
    rfl

end Controller
end Sys2Proof.Machine
end

section
/-! R54, R36, R57: a bank request with nobody else waiting: refused, parked, granted, preempting or waiting. -/

namespace Sys2Proof.Machine

theorem BankRec.notReleasing_eq (r : BankRec) : r.notReleasing =
    (!r.releasePending && r.nextHolder.isNone && r.order.all fun o => o.action == .opened) := by
  unfold BankRec.notReleasing
  cases r.order <;> simp [Bool.and_assoc, Bool.and_comm]

namespace Controller

variable {c d : Controller} {k : BankClaim}

/-! ## The request (R54) -/

theorem couldServe_iff (r : BankRec) (k : BankClaim) : couldServe r k = true ↔
    (k.vclass = .hp ∨ r.tier ≠ .high) ∧ k.floor.rank ≤ r.tier.rank ∧ ∀ p ∈ r.pressure, k.required ≤ p := by
  have hallowed : tierAllowed k.vclass r.tier = true ↔ k.vclass = .hp ∨ r.tier ≠ .high := by
    cases k.vclass <;> cases r.tier <;> simp [tierAllowed]
  rw [couldServe, Bool.and_eq_true, Bool.and_eq_true, hallowed, decide_eq_true_iff, and_assoc]
  cases r.pressure <;> simp

theorem storageIsLow_iff (c : Controller) (k : BankClaim) :
    (allBanks.any fun b => c.configured b && couldServe (c.bank b) k) = false ↔ c.storageIsLow k := by
  simp only [List.any_eq_false, Bool.and_eq_true, couldServe_iff, configured, decide_eq_true_iff, not_and]
  exact ⟨fun h b hb => by simpa using h b (List.mem_finRange b) hb, fun h b _ hb => by simpa using h b hb⟩

/-- R54 step 1: a nozzle that has no bank and no claim stands in no place of the account. -/
theorem wantsBank_unplaced (h : c.wantsBank k.nozzle) (hlist : c.alloc.bankList = []) :
    (c.alloc.bankList.any (fun u => u.nozzle == k.nozzle) || (c.parkedOf k.nozzle).isSome ||
      c.alloc.nextHolderAnywhere k.nozzle || c.alloc.holdsBank k.nozzle) = false := by
  obtain ⟨-, hparked, hbanks⟩ := h
  have hnext : c.alloc.nextHolderAnywhere k.nozzle = false := by
    rw [Allocator.nextHolderAnywhere, List.any_eq_false]
    intro r hr
    obtain ⟨i, hi, rfl⟩ := Vector.mem_iff_getElem.1 (Vector.mem_toList_iff.1 hr)
    have := (hbanks ⟨i, hi⟩).2
    unfold isNextHolder
    split
    · rename_i u hu
      simpa using this u hu
    · simp
  have hholds : c.alloc.holdsBank k.nozzle = false := by
    rw [Allocator.holdsBank, List.any_eq_false]
    intro r hr
    obtain ⟨i, hi, rfl⟩ := Vector.mem_iff_getElem.1 (Vector.mem_toList_iff.1 hr)
    exact fun hheld => (hbanks ⟨i, hi⟩).1 (beq_iff_eq.1 hheld)
  simp [hlist, hparked, hnext, hholds]

theorem bankRequest_low (h : c.wantsBank k.nozzle) (hlist : c.alloc.bankList = []) (hlow : c.storageIsLow k) :
    c.bankRequest k = ⟨c, [.storageLow k.nozzle]⟩ := by
  rw [bankRequest, wantsBank_unplaced h hlist, (c.storageIsLow_iff k).2 hlow]
  rfl

/-- R54 step 2: some bank could serve the request. -/
theorem bankRequest_served (h : c.wantsBank k.nozzle) (hlist : c.alloc.bankList = []) (hlow : ¬ c.storageIsLow k) :
    c.bankRequest k = if c.reservation k.nozzle = 0 then .of (c.setParked k.nozzle (some k))
      else ⟨{ c with alloc := { c.alloc with bankList := [k] } }, [.grantScan, .judgePreemption k.nozzle]⟩ := by
  have hserved : (allBanks.any fun b => c.configured b && couldServe (c.bank b) k) = true :=
    Bool.of_not_eq_false fun hnone => hlow ((c.storageIsLow_iff k).1 hnone)
  rw [bankRequest, wantsBank_unplaced h hlist, hserved, hlist]
  rfl

/-! ## The judgement of preemption (R57) -/

/-- R57: bank `b` preempted for a request, its release asked for. -/
def preempting (c : Controller) (b : BankId) (k : BankClaim) : Controller :=
  { c.setPort plantPort (match (c.bank b).order with
      | none => (c.port plantPort).ordered 0x50
          [BitVec.ofNat 8 (b.val + 1), 0x07, 0x02, (c.bank b).generation, 0, 0, 0]
      | some _ => c.port plantPort) with
    alloc := { c.alloc with
      bankList := c.alloc.bankList.filter fun u => u.nozzle != k.nozzle
      banks := c.alloc.banks.set b { c.bank b with
        nextHolder := some k, releasePending := (c.bank b).order.isSome
        order := match (c.bank b).order with
          | none => some ⟨.closed, (c.port plantPort).tagCounter, .compressor, (c.bank b).generation, some c.orderTime⟩
          | some o => some o } } }

theorem toPreempt_some {b : BankId} (h : c.toPreempt k = some b) : (c.bank b).state = .refilling ∧
    (c.bank b).releasePending = false ∧ ∀ o ∈ (c.bank b).order, o.action = .opened := by
  unfold toPreempt at h
  split at h
  · have hfound := List.find?_some h
    simp only [Bool.and_eq_true, beq_iff_eq, Bool.not_eq_true', decide_eq_true_iff] at hfound
    obtain ⟨⟨⟨⟨⟨-, hstate⟩, -⟩, hpending⟩, -⟩, horder⟩ := hfound
    exact ⟨hstate, hpending, fun o ho => by simpa [Option.mem_def.1 ho] using horder⟩
  · cases h

/-- R57: bank `b` with the claim of its next holder, its release not yet asked for. -/
def nextNamed (c : Controller) (b : BankId) (k : BankClaim) : Controller :=
  { c with alloc := { c.alloc with
    bankList := c.alloc.bankList.filter fun u => u.nozzle != k.nozzle
    banks := c.alloc.banks.set b { c.bank b with nextHolder := some k } } }

theorem nextNamed_closes {b : BankId} (horder : (c.bank b).order = none) (hpending : (c.bank b).releasePending = false) :
    (c.nextNamed b k).handValve b .compressor .closed = c.preempting b k := by
  have hbank : (c.nextNamed b k).bank b = { c.bank b with nextHolder := some k } := by simp [nextNamed, bank]
  rw [handValve_eq, closeBody, hbank]
  dsimp only [preempting, nextNamed, setBank, setPort]
  rw [Vector.set_set, horder, hpending]
  rfl

theorem nextNamed_pends {b : BankId} {o : ValveOrder} (horder : (c.bank b).order = some o) :
    ((c.nextNamed b k).updBank b fun r => { r with releasePending := true }) = c.preempting b k := by
  have hbank : (c.nextNamed b k).bank b = { c.bank b with nextHolder := some k } := by simp [nextNamed, bank]
  rw [updBank, hbank]
  dsimp only [preempting, nextNamed, setBank]
  rw [Vector.set_set, horder]
  dsimp only
  rw [setPort_port]
  rfl

/-- R57: the four tests. -/
theorem judgePreemption_eq (hlist : c.alloc.bankList = [k]) : c.judgePreemption k.nozzle =
    match c.toPreempt k with
    | none => .of c
    | some b => ⟨c.preempting b k, [.refillPreempted]⟩ := by
  have htests : (fun b => c.configured b && (c.bank b).state == .refilling && qualifies (c.bank b) k &&
      (c.bank b).notReleasing) = fun b => decide (b.val < c.alloc.bankCount) && (c.bank b).state == .refilling &&
        qualifies (c.bank b) k && !(c.bank b).releasePending && (c.bank b).nextHolder.isNone &&
        (c.bank b).order.all fun o => o.action == .opened := by
    funext b
    rw [BankRec.notReleasing_eq, configured]
    simp only [Bool.and_assoc]
  have hfind : (c.alloc.bankList.find? fun u => u.nozzle == k.nozzle) = some k := by simp [hlist]
  rw [judgePreemption, hfind]
  dsimp only
  rw [htests]
  by_cases henabled : c.store.settings.banks.preemptEnable = true ∧ c.store.settings.banks.preemptMinimum ≤ k.priority
  · have hon : (!c.store.settings.banks.preemptEnable || decide (k.priority < c.store.settings.banks.preemptMinimum)) =
        false := by simp [henabled.1, henabled.2]
    have hto : c.toPreempt k = allBanks.find? fun b => decide (b.val < c.alloc.bankCount) &&
        (c.bank b).state == .refilling && qualifies (c.bank b) k && !(c.bank b).releasePending &&
        (c.bank b).nextHolder.isNone && (c.bank b).order.all fun o => o.action == .opened := if_pos henabled
    rw [hon, ← hto]
    cases hb : c.toPreempt k with
    | none => rfl
    | some b =>
      obtain ⟨-, hpending, -⟩ := toPreempt_some hb
      refine congrArg (fun x => (⟨x, [.refillPreempted]⟩ : Eff)) ?_
      cases horder : (c.bank b).order with
      | none => exact nextNamed_closes horder hpending
      | some o => exact nextNamed_pends horder
  · have hoff : (!c.store.settings.banks.preemptEnable || decide (k.priority < c.store.settings.banks.preemptMinimum)) =
        true := by
      rw [not_and_or, not_le] at henabled
      simpa using henabled
    have hto : c.toPreempt k = none := if_neg henabled
    rw [hoff, hto]
    rfl

end Controller
end Sys2Proof.Machine
end

section
/-! R36, R57: what becomes of a bank request that stands alone on the bank list. -/

namespace Sys2Proof.Machine
namespace Controller

variable {c d : Controller} {k : BankClaim} {m : Nat} {late : Late}

/-- R57: bank `b` preempted for a request, before the refill ends. -/
def preemptSent (c : Controller) (b : BankId) (k : BankClaim) : Controller :=
  { (if (c.bank b).order = none then
      c.orders plantPort 0x50 [BitVec.ofNat 8 (b.val + 1), 0x07, 0x02, (c.bank b).generation, 0, 0, 0] else c) with
    alloc := { c.alloc with
      bankList := c.alloc.bankList.filter fun u => u.nozzle != k.nozzle
      banks := c.alloc.banks.set b { c.bank b with
        nextHolder := some k, releasePending := (c.bank b).order.isSome
        order := match (c.bank b).order with
          | none => some ⟨.closed, (c.port plantPort).tagCounter, .compressor, (c.bank b).generation, some c.orderTime⟩
          | some o => some o } } }

theorem preempts_eq (c : Controller) (b : BankId) (k : BankClaim) :
    c.preempts b k = (c.preemptSent b k).refillEnds .stopped := rfl

theorem preemptSent_sched (c : Controller) (b : BankId) (k : BankClaim) : (c.preemptSent b k).sched = c.sched := by
  unfold preemptSent
  rw [orders_eq]
  dsimp only
  split <;> rfl

/-- R41: the release of a preempted bank has been asked for. -/
theorem preemptSent_unfreed (c : Controller) (b : BankId) (k : BankClaim) :
    ¬ ((c.preemptSent b k).bank b).freedNow .compressor := by
  rintro ⟨-, horder, -⟩
  have hset : ((c.preemptSent b k).bank b).order = match (c.bank b).order with
      | none => some ⟨.closed, (c.port plantPort).tagCounter, .compressor, (c.bank b).generation, some c.orderTime⟩
      | some o => some o := by simp [preemptSent, bank]
  rw [hset] at horder
  cases ho : (c.bank b).order <;> rw [ho] at horder <;> cases horder

/-- The image of a preemption. -/
theorem Lags.preempting (h : c.Lags (m + 1) late d) (b : BankId) :
    (c.preempting b k).Lags m late (d.preemptSent b k) := by
  have hbank : c.bank b = d.bank b := by
    rw [h.rest]
    rfl
  have htime : c.orderTime = d.orderTime := by
    rw [h.rest]
    rfl
  unfold Controller.preempting preemptSent
  rw [h.tagCounter, hbank, htime, h.alloc]
  cases (d.bank b).order with
  | none => exact (h.order 0x50 _ fun _ => rfl).map (fun x => { x with alloc := _ }) fun _ _ => rfl
  | some o =>
    dsimp only
    rw [setPort_port]
    exact (h.fewer (Nat.le_succ m)).map (fun x => { x with alloc := _ }) fun _ _ => rfl

/-- A controller with one request on its bank list. -/
def listing (c : Controller) (k : BankClaim) : Controller := { c with alloc := { c.alloc with bankList := [k] } }

/-- R36: the grant takes the one request off the list. -/
theorem listing_grants (hlist : c.alloc.bankList = []) (b : BankId) :
    (c.listing k).grants b k.nozzle = c.grants b k.nozzle := by
  have hgone : (c.listing k).alloc.bankList.filter (fun u => u.nozzle != k.nozzle) =
      c.alloc.bankList.filter fun u => u.nozzle != k.nozzle := by simp [listing, hlist]
  rw [grants_eq, grants_eq, orders_eq, orders_eq]
  dsimp only [holdingBank]
  rw [hgone]
  rfl

theorem listing_preempts (hlist : c.alloc.bankList = []) (b : BankId) :
    (c.listing k).preempts b k = c.preempts b k := by
  have hgone : (c.listing k).alloc.bankList.filter (fun u => u.nozzle != k.nozzle) =
      c.alloc.bankList.filter fun u => u.nozzle != k.nozzle := by simp [listing, hlist]
  have hsent : (c.listing k).preemptSent b k = c.preemptSent b k := by
    dsimp only [preemptSent]
    rw [hgone, orders_eq, orders_eq, show (c.listing k).bank b = c.bank b from rfl]
    split <;> rfl
  rw [preempts_eq, preempts_eq, hsent]

/-- R56, R36: an IDLE bank is granted to the one request, for which no bank is then preempted. -/
theorem LeadsTo.listed_grants {b : BankId} (h : c.Lags (m + 1) late (d.listing k)) (hlist : d.alloc.bankList = [])
    (hchosen : d.chooseBank k = some b) (hnone : (d.ctx k.nozzle).currentBank = none)
    (hwaits : (d.ctx k.nozzle).state = .hold ∧ (d.ctx k.nozzle).causes.bankSwitch = true) :
    LeadsTo 3 m late [.grantScan, .judgePreemption k.nozzle] c (d.grants b k.nozzle) := by
  have hone : c.alloc.bankList = [] ++ k :: [] := by rw [h.alloc]; rfl
  have hchosen' : c.chooseBank k = some b := by rw [h.rest]; exact hchosen
  have hctx : c.ctx k.nozzle = d.ctx k.nozzle := by rw [h.rest]; rfl
  refine LeadsTo.append (m := 2) (m' := 1) (es := [.grantScan]) (es' := [.judgePreemption k.nozzle])
    (Leads.grants hone (by simp) hchosen' (by simp) (by rw [hctx]; exact hnone) (.inr (by rw [hctx]; exact hwaits)))
    le_rfl ?_
  refine LeadsTo.skip (fun v => ?_) (LeadsTo.nil (listing_grants hlist b ▸ h.grants b k.nozzle))
  have hgone : (c.alloc.bankList.filter fun u => u.nozzle != k.nozzle) = [] := by simp [hone]
  simp [handle, judgePreemption, holdingBank, hgone]

/-- R57: with no bank to grant, one that the compressor refills is preempted, or the request waits. -/
theorem LeadsTo.listed_judged (h : c.Lags (m + 2) late (d.listing k)) (hlist : d.alloc.bankList = [])
    (hchosen : d.chooseBank k = none) (hrefills : d.refillsWhat k) (hprecool : d.alloc.precoolList = [])
    (hclaim : d.alloc.compressorClaim = none) :
    LeadsTo 5 m late [.grantScan, .judgePreemption k.nozzle] c
      (match d.toPreempt k with
        | some b => d.preempts b k
        | none => d.listing k) := by
  have hone : c.alloc.bankList = [k] := by rw [h.alloc]; rfl
  have hchosen' : c.chooseBank k = none := by rw [h.rest]; exact hchosen
  have hto : c.toPreempt k = d.toPreempt k := by rw [h.rest]; rfl
  have hjudged : ∀ v, ({ c with owed := v }).judgePreemption k.nozzle = match d.toPreempt k with
      | none => .of { c with owed := v }
      | some b => ⟨({ c with owed := v }).preempting b k, [.refillPreempted]⟩ := fun v => by
    rw [← hto]
    exact judgePreemption_eq (c := { c with owed := v }) hone
  refine LeadsTo.skip (fun v => scanEntries_none _ _ fun u hu => ?_) ?_
  · rw [show ({ c with owed := v } : Controller).alloc.bankList = [k] from hone, List.mem_singleton] at hu
    rw [hu]
    exact hchosen'
  cases hb : d.toPreempt k with
  | none =>
    exact (LeadsTo.skip (c := c) (e := .judgePreemption k.nozzle) (fun v => (hjudged v).trans (by rw [hb]))
      (LeadsTo.nil (h.fewer (by omega)))).more (by omega)
  | some b =>
    obtain ⟨hrefilling, hheld, -⟩ := hrefills b hb
    have himage := h.preempting (k := k) b
    have hunfreed : ∀ u ∈ ((d.listing k).preemptSent b k).sched.heldBank,
        ¬ (((d.listing k).preemptSent b k).bank u.bank).freedNow .compressor := fun u hu => by
      rw [preemptSent_sched] at hu
      have hub : u.bank = b := by
        rw [show d.sched.heldBank = some u from hu] at hheld
        exact Option.some.inj hheld
      rw [hub]
      exact preemptSent_unfreed _ b k
    refine LeadsTo.cons (x := c.preempting b k) (told := [.refillPreempted])
      (fun v => (hjudged v).trans (by rw [hb]; rfl)) ?_
    have hactive : (c.preempting b k).sched.refilling = true := (congrArg Scheduler.refilling h.sched).trans hrefilling
    refine (LeadsTo.refillEnd (c := c.preempting b k) (y := c.preempting b k) (e := .refillPreempted) (why := .preempted)
      (fun v => if_pos hactive) ?_ ?_ ?_ (by decide) (by decide) rfl).more (by omega)
    · dsimp only
      rw [← listing_preempts hlist, preempts_eq]
      exact himage.refillOver_unfreed hunfreed .stopped
    · exact (congrArg Allocator.precoolList h.alloc).trans hprecool
    · exact (congrArg Allocator.compressorClaim h.alloc).trans hclaim

/-- R54: what becomes of a request that some bank could serve, with nobody else waiting for a bank. -/
theorem LeadsTo.asked (h : c.Lags (m + 2) late d) (hwants : d.wantsBank k.nozzle) (hlist : d.alloc.bankList = [])
    (hlow : ¬ d.storageIsLow k) (hrefills : d.refillsWhat k) (hprecool : d.alloc.precoolList = [])
    (hclaim : d.alloc.compressorClaim = none)
    (hwaits : (d.ctx k.nozzle).state = .hold ∧ (d.ctx k.nozzle).causes.bankSwitch = true) :
    LeadsTo 6 m late [.bankRequest k] c (d.asks k) := by
  have hrequest : ∀ v, ({ c with owed := v }).bankRequest k = if d.reservation k.nozzle = 0
      then .of (({ c with owed := v }).setParked k.nozzle (some k))
      else ⟨({ c with owed := v }).listing k, [.grantScan, .judgePreemption k.nozzle]⟩ := fun v => by
    have hserved := bankRequest_served (c := { c with owed := v }) (k := k) (by rw [h.rest]; exact hwants)
      (by rw [h.rest]; exact hlist) (by rw [h.rest]; exact hlow)
    rw [hserved, show ({ c with owed := v } : Controller).reservation k.nozzle = d.reservation k.nozzle by
      rw [h.rest]; rfl]
    rfl
  unfold asks
  by_cases hres : d.reservation k.nozzle = 0
  · rw [if_pos hres]
    refine (LeadsTo.cons (c := c) (e := .bankRequest k) (x := c.setParked k.nozzle (some k)) (told := [])
      (fun v => (hrequest v).trans (if_pos hres)) (LeadsTo.nil ?_)).more (by omega)
    exact (h.fewer (by omega)).map (fun x => x.setParked k.nozzle (some k)) fun _ _ => rfl
  · rw [if_neg hres]
    have hlisted : (c.listing k).Lags (m + 2) late (d.listing k) := h.map (fun x => x.listing k) fun _ _ => rfl
    refine LeadsTo.cons (x := c.listing k) (told := [.grantScan, .judgePreemption k.nozzle])
      (fun v => (hrequest v).trans (if_neg hres)) ?_
    rw [List.append_nil]
    cases hchosen : d.chooseBank k with
    | some b => exact (LeadsTo.listed_grants (hlisted.fewer (by omega)) hlist hchosen hwants.1 hwaits).more (by omega)
    | none =>
      have hjudged := LeadsTo.listed_judged hlisted hlist hchosen hrefills hprecool hclaim
      cases hb : d.toPreempt k <;> rw [hb] at hjudged <;> exact hjudged

end Controller
end Sys2Proof.Machine
end

section
/-! R44, R127: ISOLATE_BANK, and all that follows from it. -/

namespace Sys2Proof.Machine

/-! ## The image of the fill that loses its bank -/

theorem Record.closing_length (pressure : Option Nat) (r : Record) :
    (Record.closing pressure r).segments.length = r.segments.length := by
  rw [Record.closing]
  rcases List.eq_nil_or_concat r.segments with h | ⟨l, g, h⟩ <;> simp [h]

theorem Context.withCause_kept (x : Context) (k : HoldCause) (tag : Octet) (time : Nat) :
    (x.withCause k tag time).auth = x.auth ∧ (x.withCause k tag time).join = x.join ∧
      (x.withCause k tag time).vclass = x.vclass ∧ (x.withCause k tag time).measured = x.measured := by
  unfold Context.withCause
  split <;> exact ⟨rfl, rfl, rfl, rfl⟩

theorem Context.withCause_holds (x : Context) (tag : Octet) (time : Nat) (h : x.state = .ramping ∨ x.state = .hold) :
    (x.withCause .bankSwitch tag time).state = .hold ∧ (x.withCause .bankSwitch tag time).causes.bankSwitch = true := by
  unfold Context.withCause
  rcases h with h | h <;> simp [h, HoldCauses.put]

/-- R105: a fill in RAMPING whose flow is OPEN without an order in flight is given one. -/
theorem Context.withCause_orders (x : Context) (k : HoldCause) (tag : Octet) (time : Nat) (b : BankRef)
    (h : x.state = .ramping) (hflow : x.flow = .opened) (horder : x.flowOrder = none) (hbank : x.flowBank = some b) :
    (x.withCause k tag time).flowOrder ≠ none := by
  rw [x.withCause_ramping k tag time h]
  simp [hflow, horder, hbank]

namespace Controller

/-- An order handed at a port other than the plant's. -/
theorem Lags.orderElsewhere {k : Nat} {late : Late} {c d : Controller} (h : c.Lags k late d) {p : PortId}
    (hp : p ≠ plantPort) (kind : Octet) (body : List Octet) (hport : c.port p = d.port p)
    (hl : (d.port p).line = none → (d.port p).outbound = []) (hfree : (d.port p).answerPlace = false)
    (hroom : d.room p) :
    (c.setPort p ((c.port p).ordered kind body)).Lags k late (d.orders p kind body) := by
  obtain ⟨hrest, ⟨base, hbase, hlags⟩, hothers⟩ := h
  refine ⟨?_, ⟨base, ?_, ?_⟩, fun q hq => ?_⟩
  · rw [orders_eq, hrest]
    rfl
  · rwa [port_setPort_ne _ _ hp.symm]
  · rwa [orders_eq, port_setPort_ne _ _ hp.symm]
  · by_cases hqp : q = p
    · subst hqp
      rw [port_setPort_self, hport]
      exact d.pump_ordered q kind body hl hfree hroom
    · rw [orders_eq, port_setPort_ne _ _ hqp, port_setPort_ne _ _ hqp]
      exact hothers q hq

/-- The image of a fill's FLOW CLOSE. -/
theorem Lags.flowShutting {k : Nat} {late : Late} {c d : Controller} (h : c.Lags k late d) (n : Nozzle)
    (hport : c.port (portOfNozzle n) = d.port (portOfNozzle n)) (hl : d.linesServed)
    (hfree : (d.port (portOfNozzle n)).answerPlace = false) (hroom : d.room (portOfNozzle n)) :
    (c.flowShutting n).Lags k late (d.shutsFlow n) := by
  have hctx : c.ctx n = d.ctx n := by rw [h.rest]; rfl
  have hkept : (c.setPort (portOfNozzle n) (c.port (portOfNozzle n))).Lags k late d := by rwa [setPort_port]
  unfold Controller.flowShutting shutsFlow
  rw [hctx]
  cases (d.ctx n).flow with
  | closed => exact hkept
  | opened =>
    cases (d.ctx n).flowOrder with
    | some o => exact hkept
    | none =>
      cases (d.ctx n).flowBank with
      | none => exact hkept
      | some b => exact h.orderElsewhere (portOfNozzle_ne_plant n) 0x52 _ hport (hl _) hfree hroom

theorem shutsFlow_setBank (c : Controller) (n : Nozzle) (b : BankId) (r : BankRec) :
    (c.setBank b r).shutsFlow n = (c.shutsFlow n).setBank b r := by
  have hctx : (c.setBank b r).ctx n = c.ctx n := rfl
  unfold shutsFlow
  rw [hctx]
  split
  · rw [orders_eq, orders_eq]
    rfl
  · rfl

/-- R127: what the isolation of a fill's bank leaves, but for what the fill then does. -/
def lost (c : Controller) (b : BankId) (n : Nozzle) (a : Authorisation) (ref : BankRef) : Controller :=
  { ((if (c.ctx n).state = .ramping then c.shutsFlow n else c).setBank b { c.bank b with
      state := .isolated, holder := none, order := none, releasePending := false
      generation := (c.bank b).generation + 1 }) with
    contexts := c.contexts.set n
      { (c.ctx n).withCause .bankSwitch (c.port (portOfNozzle n)).tagCounter c.orderTime with
        currentBank := none, lastBank := some ref }
    ring := { c.ring with records := changed a.seq (Record.closing (c.bank b).pressure) c.ring.records } }

/-- The controller as ISOLATE_BANK is carried out and answered, before anybody is told. -/
def isolating (c : Controller) (b : BankId) (rest : List Telegram) (tag : Octet) : Controller :=
  (c.setBank b (c.bank b).isolate).placed rest ⟨0x90, tag, [0x00]⟩

theorem isolating_lags {c : Controller} (h : c.atRest) (b : BankId) {t : Telegram} {rest : List Telegram} (tag : Octet)
    (ha : c.asked plantPort t rest) {k : Nat} (hroom : c.roomFor plantPort (k + 1)) :
    (c.isolating b rest tag).Lags k (some (rest, ⟨0x90, tag, [0x00]⟩)) (c.setBank b (c.bank b).isolate) :=
  atRest.lags_placed (c := c.setBank b (c.bank b).isolate) h ha hroom rfl

/-- The image of a fill that has lost its bank. -/
theorem Lags.losesBank {c : Controller} {k : Nat} {late : Late} {rest : List Telegram} {tag : Octet} {b : BankId}
    (h : (c.isolating b rest tag).Lags k late (c.setBank b (c.bank b).isolate)) (hrest : c.atRest) (n : Nozzle)
    (a : Authorisation) (ref : BankRef) (hheld : (c.bank b).holder = some (.nozzle n))
    (hnext : (c.bank b).nextHolder = none) (hroom : c.room (portOfNozzle n)) :
    ((c.isolating b rest tag).losesBank n a ref (c.bank b).pressure).Lags k late (c.lost b n a ref) := by
  have hisolate : (c.bank b).isolate = { c.bank b with
      state := .isolated, holder := none, order := none, releasePending := false
      generation := (c.bank b).generation + 1 } := by
    simp [BankRec.isolate, hheld, hnext]
  have hport : (c.isolating b rest tag).port (portOfNozzle n) = c.port (portOfNozzle n) :=
    port_setPort_ne _ _ (portOfNozzle_ne_plant n)
  have hctx : (c.isolating b rest tag).ctx n = c.ctx n := rfl
  have himage : (if (c.ctx n).state = .ramping then (c.isolating b rest tag).flowShutting n
      else c.isolating b rest tag).Lags k late
        ((if (c.ctx n).state = .ramping then c.shutsFlow n else c).setBank b (c.bank b).isolate) := by
    split
    · rw [← shutsFlow_setBank]
      exact h.flowShutting n hport hrest.2.2.1 (hrest.2.2.2 _) hroom
    · exact h
  unfold Controller.losesBank lost
  rw [hctx, hport, ← hisolate]
  exact himage.map (fun x => { x with
    contexts := c.contexts.set n
      { (c.ctx n).withCause .bankSwitch (c.port (portOfNozzle n)).tagCounter c.orderTime with
        currentBank := none, lastBank := some ref }
    ring := { c.ring with records := changed a.seq (Record.closing (c.bank b).pressure) c.ring.records } })
    fun _ _ => rfl

end Controller
end Sys2Proof.Machine
end

section
/-! R44, R109, R127: ISOLATE_BANK. -/

namespace Sys2Proof.Machine
namespace Controller

/-! ## The Scheduler is told (R67) -/

/-- R67: a bank that the Scheduler neither queues, claims nor holds. -/
def unscheduled (k : Scheduler) (b : BankId) : Prop :=
  b ∉ k.queue ∧ k.claimPending ≠ some b ∧ k.heldBank.map HeldBank.bank ≠ some b

theorem toldIsolated_unscheduled (c : Controller) (b : BankId) (h : unscheduled c.sched b) :
    c.toldIsolated b = .of c := by
  obtain ⟨hqueue, hclaim, hheld⟩ := h
  have hkept : (c.updSched fun s => { s with queue := s.queue.filter fun u => u != b }) = c := by
    have hall : c.sched.queue.filter (fun u => u != b) = c.sched.queue :=
      List.filter_eq_self.2 fun u hu => by
        simp only [bne_iff_ne]
        exact fun hub => hqueue (hub ▸ hu)
    rw [updSched, hall]
  have hleaves : c.leaveQueue b = .of c := by
    unfold leaveQueue
    dsimp only
    rw [hkept, if_neg hclaim]
  rw [toldIsolated, hleaves]
  simp only [Eff.andThen, Eff.of]
  cases hbank : c.sched.heldBank with
  | none => rfl
  | some u =>
    have hne : u.bank ≠ b := fun hub => hheld (by rw [hbank, ← hub]; rfl)
    dsimp only
    rw [if_pos hne]
    rfl

theorem Leads.isolated {c : Controller} {b : BankId} (h : unscheduled c.sched b) : Leads 1 [.bankIsolated b] c c :=
  Leads.skip (fun v => toldIsolated_unscheduled { c with owed := v } b h) (Leads.nil c)

/-- R54, R57: a bank request leaves the Scheduler's queue, its claim and the bank it holds. -/
theorem asks_unscheduled {c : Controller} {k : BankClaim} {b : BankId} (h : unscheduled c.sched b) :
    unscheduled (c.asks k).sched b := by
  unfold asks
  split
  · exact h
  · split
    · rw [grants_eq, orders_eq]
      exact h
    · obtain ⟨hqueue, hclaim, hheld⟩ := h
      rw [preempts_eq]
      refine ⟨?_, ?_, ?_⟩ <;> simp only [refillEnds, preemptSent_sched]
      · exact hqueue
      · exact hclaim
      · rwa [Option.map_map]
    · exact h

/-! ## What a fill without its bank does (R125) -/

section Fill

variable {c : Controller} {n : Nozzle} {a : Authorisation} {r : Record} {ref : BankRef} {pressure : Option Nat}

theorem losesBank_ctx (c : Controller) (n : Nozzle) (a : Authorisation) (ref : BankRef) (pressure : Option Nat) :
    (c.losesBank n a ref pressure).ctx n =
      { (c.ctx n).withCause .bankSwitch (c.port (portOfNozzle n)).tagCounter c.orderTime with
        currentBank := none, lastBank := some ref } := by
  simp [losesBank, ctx]

theorem losesBank_owed (c : Controller) (n : Nozzle) (a : Authorisation) (ref : BankRef) (pressure : Option Nat)
    (v : List Event) : ({ c with owed := v }).losesBank n a ref pressure = { c.losesBank n a ref pressure with owed := v } := by
  unfold losesBank
  rw [show ({ c with owed := v } : Controller).ctx n = c.ctx n from rfl]
  split <;> rfl

/-- What the loss of its bank leaves of the rest of the controller. -/
theorem losesBank_kept (c : Controller) (n : Nozzle) (a : Authorisation) (ref : BankRef) (pressure : Option Nat) :
    (c.losesBank n a ref pressure).alloc = c.alloc ∧ (c.losesBank n a ref pressure).sched = c.sched ∧
      (c.losesBank n a ref pressure).store = c.store ∧ (c.losesBank n a ref pressure).owed = c.owed := by
  unfold losesBank
  split <;> exact ⟨rfl, rfl, rfl, rfl⟩

theorem losesBank_segments (ha : (c.ctx n).auth = some a) (hr : c.recordOf n = some r) :
    (c.losesBank n a ref pressure).segmentCount n = r.segments.length := by
  have hauth : ((c.losesBank n a ref pressure).ctx n).auth = some a := by
    rw [losesBank_ctx]
    exact (Context.withCause_kept _ _ _ _).1.trans ha
  have hfound : c.ring.records.find? (fun q => q.seq = a.seq) = some r := by
    rw [recordOf, ha] at hr
    exact hr
  have hrecord : (c.losesBank n a ref pressure).recordOf n = some (Record.closing pressure r) := by
    rw [recordOf, hauth]
    refine (find_changed a.seq (Record.closing pressure) c.ring.records fun _ => rfl).trans ?_
    rw [hfound]
    rfl
  rw [segmentCount, hrecord]
  exact Record.closing_length pressure r

/-- R125: the request of a fill that has lost its bank. -/
theorem losesBank_claim (ha : (c.ctx n).auth = some a) :
    (c.losesBank n a ref pressure).bankClaim n ((c.losesBank n a ref pressure).ctx n).floor =
      ⟨n, a.priority, (c.ctx n).join.getD 0, (c.ctx n).vclass, ref.tier,
        (c.ctx n).measured + c.store.settings.banks.differential⟩ := by
  obtain ⟨hauth, hjoin, hclass, hmeasured⟩ := (c.ctx n).withCause_kept .bankSwitch
    (c.port (portOfNozzle n)).tagCounter c.orderTime
  rw [bankClaim, losesBank_ctx, (c.losesBank_kept n a ref pressure).2.2.1]
  dsimp only
  rw [hauth, hjoin, hclass, hmeasured, ha]
  rfl

/-- R127: a fill in RAMPING or HOLD goes on at step 2 of R125. -/
theorem handle_bankLost_switches (ha : (c.ctx n).auth = some a) (href : (c.ctx n).currentBank = some ref)
    (hr : c.recordOf n = some r) (hstate : (c.ctx n).state = .ramping ∨ (c.ctx n).state = .hold) (v : List Event) :
    ({ c with owed := v }).handle (.bankLost n ref.bank pressure) =
      if 8 ≤ r.segments.length then ({ c.losesBank n a ref pressure with owed := v }).beginEnding n .segmentLimit
      else ⟨{ c.losesBank n a ref pressure with owed := v }, [.bankRequest ⟨n, a.priority, (c.ctx n).join.getD 0,
        (c.ctx n).vclass, ref.tier, (c.ctx n).measured + c.store.settings.banks.differential⟩]⟩ := by
  have hlost := (bankLost_eq { c with owed := v } n a ref pressure ha href).2 hstate
  have hsegments : ({ c.losesBank n a ref pressure with owed := v } : Controller).segmentCount n = r.segments.length :=
    losesBank_segments ha hr
  have hclaim : ({ c.losesBank n a ref pressure with owed := v } : Controller).bankClaim n
      (({ c.losesBank n a ref pressure with owed := v } : Controller).ctx n).floor = _ :=
    losesBank_claim (ref := ref) (pressure := pressure) ha
  rw [handle, hlost, losesBank_owed, switchOn, hsegments, hclaim]

/-- R109: a fill in LEAK_CHECK ends. -/
theorem handle_bankLost_ends (ha : (c.ctx n).auth = some a) (href : (c.ctx n).currentBank = some ref)
    (hstate : (c.ctx n).state = .leakCheck) (v : List Event) :
    ({ c with owed := v }).handle (.bankLost n ref.bank pressure) =
      ({ c.losesBank n a ref pressure with owed := v }).beginEnding n .leakCheckInterrupted := by
  have hlost := (bankLost_eq { c with owed := v } n a ref pressure ha href).1 hstate
  rw [handle, hlost, losesBank_owed]

end Fill

/-- An event that the end of a fill of `y` follows from. -/
theorem Leads.endsIn {c y : Controller} {n : Nozzle} {why : EndReason} {e : Event}
    (h : ∀ v, ({ c with owed := v }).handle e = ({ y with owed := v }).beginEnding n why)
    (hlist : y.alloc.precoolList = []) (hclaim : y.alloc.compressorClaim = none) :
    ∃ m, m ≤ 2 ∧ Leads m [e] c (y.beginEnding n why).ctl := by
  obtain ⟨m, hm, hl⟩ := Leads.ending y n why hlist hclaim
  refine ⟨m + 1, by omega, Leads.cons (c := c) (x := (y.beginEnding n why).ctl) (told := (y.beginEnding n why).events)
    (fun v => (h v).trans (y.beginEnding_owed n why v)) ?_⟩
  rwa [List.append_nil]

end Controller

/-! ## The command -/

/-- R44: an ISOLATE_BANK that is refused, or changes nothing. -/
theorem exec_isolateBank_quiet (s : State) (tag bank : Octet) (rest : List Telegram) (result : Result)
    (h : s.ctl.atRest) (ha : s.ctl.asked plantPort ⟨0x10, tag, [bank]⟩ rest)
    (hcarry : (s.ctl.carrying plantPort rest).carryIsolate ⟨0x10, tag, [bank]⟩ bank =
      ⟨.of (s.ctl.carrying plantPort rest), result, []⟩) :
    exec (.isolateBank plantPort tag bank) s =
      .next (s.withCtl (s.ctl.answered plantPort rest ⟨0x90, tag, [result.code]⟩)) := by
  simp only [exec, execIsolateBank, State.request, telegramOf, State.does]
  rw [s.ctl.perform_request s.ctl plantPort _ rest _ result [] h ha rfl rfl rfl h.2.1 hcarry]
  rfl

/-- R44: an ISOLATE_BANK of a bank in use, with all that follows from it. -/
theorem exec_isolateBank (s : State) (tag bank : Octet) (b : BankId) (rest : List Telegram) (x : Controller) (n : Nat)
    (h : s.ctl.atRest) (ha : s.ctl.asked plantPort ⟨0x10, tag, [bank]⟩ rest) (hbank : bank.toNat = b.val + 1)
    (hb : b.val < s.ctl.alloc.bankCount) (hstate : (s.ctl.bank b).state ≠ .isolated)
    (hl : Controller.Leads n (s.ctl.tellsIsolation b) (s.ctl.isolating b rest tag) x) (hn : n ≤ 4096)
    (hx : x.owed = []) : exec (.isolateBank plantPort tag bank) s = .next (s.withCtl x.settleLines) := by
  simp only [exec, execIsolateBank, State.request, telegramOf, State.does]
  rw [s.ctl.perform_asked (s.ctl.setBank b (s.ctl.bank b).isolate) x _ rest _ .ok [] n _ h ha rfl rfl rfl h.2.1
    (s.ctl.carryIsolate_eq tag bank b rest hbank hb hstate) hl hn hx]

end Sys2Proof.Machine
end

section
/-! R127, R109: the isolation of a fill's current bank, as a whole. -/

namespace Sys2Proof.Machine

theorem PortRec.orderSent_answerPlace (r : PortRec) (kind : Octet) (body : List Octet) :
    (r.orderSent kind body).answerPlace = r.answerPlace := by
  cases hlink : r.link with
  | up =>
    rw [PortRec.orderSent_up r kind body hlink, PortRec.sends]
    split <;> rfl
  | down => rw [PortRec.orderSent_down r kind body hlink]

/-- Without an open flow to shut, no order is handed. -/
theorem Controller.flowShutting_idle (c : Controller) (n : Nozzle)
    (h : ¬ ((c.ctx n).flow = .opened ∧ (c.ctx n).flowOrder = none ∧ (c.ctx n).flowBank ≠ none)) :
    c.flowShutting n = c := by
  unfold Controller.flowShutting
  split
  · rename_i u hflow horder hbank
    exact absurd ⟨hflow, horder, by simp [hbank]⟩ h
  · exact Controller.setPort_port c _

/-- R127: ISOLATE_BANK, at a calm controller, of the current bank `b` of the fill at nozzle `n`. -/
structure Controller.IsolatesFillsBank (c : Controller) (tag bank : Octet) (b : BankId) (n : Nozzle) (ref : BankRef)
    (a : Authorisation) (r : Record) (rest : List Telegram) : Prop where
  calm : c.calm
  asked : c.asked plantPort ⟨0x10, tag, [bank]⟩ rest
  roomPlant : c.roomFor plantPort 3
  roomNozzle : c.room (portOfNozzle n)
  number : bank.toNat = b.val + 1
  configured : b.val < c.alloc.bankCount
  inUse : (c.bank b).state ≠ .isolated
  unclaimed : (c.bank b).nextHolder = none
  held : (c.bank b).holder = some (.nozzle n)
  current : (c.ctx n).currentBank = some ref
  names : ref.bank = b
  auth : (c.ctx n).auth = some a
  record : c.recordOf n = some r
  unscheduled : Controller.unscheduled c.sched b

namespace Controller.IsolatesFillsBank

variable {s : State} {c : Controller} {tag bank : Octet} {b : BankId} {n : Nozzle} {ref : BankRef} {a : Authorisation}
  {r : Record} {rest : List Telegram}

theorem tells (h : c.IsolatesFillsBank tag bank b n ref a r rest) :
    c.tellsIsolation b = [.bankLost n ref.bank (c.bank b).pressure, .bankIsolated b] := by
  rw [tellsIsolation, h.held, h.unclaimed, h.names]
  rfl

/-- The fill that loses its bank, before it goes on. -/
theorem image (h : c.IsolatesFillsBank tag bank b n ref a r rest) :
    ((c.isolating b rest tag).losesBank n a ref (c.bank b).pressure).Lags 2 (some (rest, ⟨0x90, tag, [0x00]⟩))
      (c.lost b n a ref) :=
  (isolating_lags h.calm.1 b tag h.asked h.roomPlant).losesBank h.calm.1 n a ref h.held h.unclaimed h.roomNozzle

/-- What the isolation leaves of the lists, the Scheduler and the events. -/
theorem kept (h : c.IsolatesFillsBank tag bank b n ref a r rest) (pressure : Option Nat) :
    ((c.isolating b rest tag).losesBank n a ref pressure).alloc.precoolList = [] ∧
      ((c.isolating b rest tag).losesBank n a ref pressure).alloc.bankList = [] ∧
      ((c.isolating b rest tag).losesBank n a ref pressure).alloc.compressorClaim = none ∧
      ((c.isolating b rest tag).losesBank n a ref pressure).sched = c.sched ∧
      ((c.isolating b rest tag).losesBank n a ref pressure).owed = [] := by
  obtain ⟨hrest, hprecool, hlist, hclaim⟩ := h.calm
  obtain ⟨halloc, hsched, -, howed⟩ := (c.isolating b rest tag).losesBank_kept n a ref pressure
  rw [halloc, hsched, howed]
  exact ⟨hprecool, hlist, hclaim, rfl, hrest.2.1⟩

/-- No place is kept for an answer but the plant's. -/
theorem lost_free (h : c.IsolatesFillsBank tag bank b n ref a r rest) (q : PortId) :
    ((c.lost b n a ref).port q).answerPlace = false := by
  have hfree := h.calm.1.2.2.2
  have hshut : ((c.shutsFlow n).port q).answerPlace = false := by
    unfold shutsFlow
    split
    · rw [orders_eq]
      by_cases hq : q = portOfNozzle n
      · subst hq
        rw [port_setPort_self]
        rw [PortRec.orderSent_answerPlace]
        exact hfree _
      · rw [port_setPort_ne _ _ hq]
        exact hfree q
    · exact hfree q
  have hport : (c.lost b n a ref).port q = (if (c.ctx n).state = .ramping then c.shutsFlow n else c).port q := rfl
  rw [hport]
  split
  · exact hshut
  · exact hfree q

/-- The line of the fill's dispenser is served, or its FLOW CLOSE is in flight. -/
theorem nozzle_served (h : c.IsolatesFillsBank tag bank b n ref a r rest) (pressure : Option Nat) :
    let y := (c.isolating b rest tag).losesBank n a ref pressure
    ((y.port (portOfNozzle n)).line = none → (y.port (portOfNozzle n)).outbound = []) ∨ (y.ctx n).flowOrder ≠ none := by
  intro y
  have hport : (c.isolating b rest tag).port (portOfNozzle n) = c.port (portOfNozzle n) :=
    port_setPort_ne _ _ (portOfNozzle_ne_plant n)
  have hserved := h.calm.1.2.2.1 (portOfNozzle n)
  have hctx := (c.isolating b rest tag).losesBank_ctx n a ref pressure
  by_cases hshut : (c.ctx n).state = .ramping ∧ (c.ctx n).flow = .opened ∧ (c.ctx n).flowOrder = none ∧
      (c.ctx n).flowBank ≠ none
  · obtain ⟨hstate, hflow, horder, hbank⟩ := hshut
    obtain ⟨u, hu⟩ := Option.ne_none_iff_exists'.1 hbank
    right
    rw [hctx]
    exact Context.withCause_orders _ _ _ _ u hstate hflow horder hu
  · left
    have hsame : (if (c.ctx n).state = .ramping then (c.isolating b rest tag).flowShutting n
        else c.isolating b rest tag) = c.isolating b rest tag := by
      by_cases hstate : (c.ctx n).state = .ramping
      · rw [if_pos hstate]
        exact (c.isolating b rest tag).flowShutting_idle n fun hflow => hshut ⟨hstate, hflow⟩
      · exact if_neg hstate
    have hkept : y.port (portOfNozzle n) = c.port (portOfNozzle n) :=
      (congrArg (fun d : Controller => d.port (portOfNozzle n)) hsame).trans hport
    rw [hkept]
    exact hserved

/-- A fill that ends as its bank is isolated. -/
theorem ends (h : s.ctl.IsolatesFillsBank tag bank b n ref a r rest) (why : EndReason)
    (x : Controller) (m : Nat) (hm : m ≤ 4)
    (hx : x = (((s.ctl.isolating b rest tag).losesBank n a ref (s.ctl.bank b).pressure).beginEnding n why).ctl)
    (hl : Leads m [.bankLost n ref.bank (s.ctl.bank b).pressure] (s.ctl.isolating b rest tag) x) :
    ∃ t, exec (.isolateBank plantPort tag bank) s = .next t ∧
      ((s.ctl.lost b n a ref).answered plantPort rest ⟨0x90, tag, [0x00]⟩).endsFill t.ctl n why := by
  obtain ⟨-, -, -, hsched, howed⟩ := h.kept (s.ctl.bank b).pressure
  obtain ⟨hxowed, -, -, -, hxsched⟩ :=
    beginEnding_waiting ((s.ctl.isolating b rest tag).losesBank n a ref (s.ctl.bank b).pressure) n why
  rw [← hx] at hxowed hxsched
  refine ⟨_, exec_isolateBank s tag bank b rest x (m + 1) h.calm.1 h.asked h.number h.configured h.inUse ?_ (by omega)
    (hxowed.trans howed), ?_⟩
  · rw [h.tells]
    exact hl.append (es' := [.bankIsolated b]) (Leads.isolated (by rw [hxsched, hsched]; exact h.unscheduled))
  · have hends := beginEnding_ends_unserved ((s.ctl.isolating b rest tag).losesBank n a ref (s.ctl.bank b).pressure) n why
      (h.image.free fun q _ => h.lost_free q)
      (fun u hu => by
        rw [losesBank_ctx] at hu
        cases hu)
      (h.nozzle_served _)
    rw [h.image.settled, ← hx] at hends
    exact hends

end Controller.IsolatesFillsBank
end Sys2Proof.Machine
end

section
/-! R125, R127: how the fill goes on, and the obligation. -/

namespace Sys2Proof.Machine
namespace Controller

theorem asks_owed (c : Controller) (k : BankClaim) : (c.asks k).owed = c.owed := by
  unfold asks
  split
  · rfl
  · split
    · rw [grants_eq, orders_eq]
      rfl
    · rw [preempts_eq, refillEnds_owed]
      unfold preemptSent
      rw [orders_eq]
      dsimp only
      split <;> rfl
    · rfl

namespace IsolatesFillsBank

variable {s : State} {c : Controller} {tag bank : Octet} {b : BankId} {n : Nozzle} {ref : BankRef} {a : Authorisation}
  {r : Record} {rest : List Telegram}

/-- R125: the request of the fill that has lost its bank. -/
def claim (c : Controller) (n : Nozzle) (a : Authorisation) (ref : BankRef) : BankClaim :=
  ⟨n, a.priority, (c.ctx n).join.getD 0, (c.ctx n).vclass, ref.tier,
    (c.ctx n).measured + c.store.settings.banks.differential⟩

theorem lost_lists (h : c.IsolatesFillsBank tag bank b n ref a r rest) :
    (c.lost b n a ref).alloc.precoolList = [] ∧ (c.lost b n a ref).alloc.bankList = [] ∧
      (c.lost b n a ref).alloc.compressorClaim = none ∧ (c.lost b n a ref).sched = c.sched ∧
      (c.lost b n a ref).owed = [] := by
  rw [← h.image.alloc, ← h.image.sched, h.image.owed]
  exact h.kept _

theorem lost_ctx (c : Controller) (b : BankId) (n : Nozzle) (a : Authorisation) (ref : BankRef) :
    (c.lost b n a ref).ctx n =
      { (c.ctx n).withCause .bankSwitch (c.port (portOfNozzle n)).tagCounter c.orderTime with
        currentBank := none, lastBank := some ref } := by
  simp [lost, ctx]

/-- R127: the fill asks for a bank. -/
theorem Leads.requests (h : c.IsolatesFillsBank tag bank b n ref a r rest)
    (hstate : (c.ctx n).state = .ramping ∨ (c.ctx n).state = .hold) (hshort : r.segments.length < 8) {m : Nat}
    {es : List Event} {x : Controller}
    (hl : Leads m (.bankRequest (claim c n a ref) :: es)
      ((c.isolating b rest tag).losesBank n a ref (c.bank b).pressure) x) :
    Leads (m + 1) (.bankLost n ref.bank (c.bank b).pressure :: es) (c.isolating b rest tag) x :=
  Leads.cons (told := [.bankRequest (claim c n a ref)])
    (fun v => (handle_bankLost_switches (c := c.isolating b rest tag) h.auth h.current h.record hstate v).trans
      (if_neg (by omega))) hl

/-- R54, R36, R57: the fill's request is granted, preempts a bank, is parked or waits. -/
theorem goesOn (h : s.ctl.IsolatesFillsBank tag bank b n ref a r rest)
    (hstate : (s.ctl.ctx n).state = .ramping ∨ (s.ctl.ctx n).state = .hold) (hshort : r.segments.length < 8)
    (hwants : (s.ctl.lost b n a ref).wantsBank n) (hlow : ¬ (s.ctl.lost b n a ref).storageIsLow (claim s.ctl n a ref))
    (hrefills : (s.ctl.lost b n a ref).refillsWhat (claim s.ctl n a ref)) :
    exec (.isolateBank plantPort tag bank) s = .next (s.withCtl
      (((s.ctl.lost b n a ref).asks (claim s.ctl n a ref)).answered plantPort rest ⟨0x90, tag, [0x00]⟩)) := by
  obtain ⟨hprecool, hlist, hclaim, hsched, howed⟩ := h.lost_lists
  have hholds : ((s.ctl.lost b n a ref).ctx n).state = .hold ∧
      ((s.ctl.lost b n a ref).ctx n).causes.bankSwitch = true := by
    rw [lost_ctx]
    exact Context.withCause_holds _ _ _ hstate
  obtain ⟨x, m, hm, hleads, himage⟩ :=
    LeadsTo.asked (m := 0) h.image hwants hlist hlow hrefills hprecool hclaim hholds
  have hquiet : Controller.unscheduled x.sched b := by
    rw [himage.sched]
    exact asks_unscheduled (by rw [hsched]; exact h.unscheduled)
  have hxowed : x.owed = [] := by rw [← himage.owed, asks_owed, howed]
  have hall : Leads (m + 1 + 1) (s.ctl.tellsIsolation b) (s.ctl.isolating b rest tag) x := by
    rw [h.tells]
    exact Leads.requests h hstate hshort (hleads.append (es' := [.bankIsolated b]) (Leads.isolated hquiet))
  rw [exec_isolateBank s tag bank b rest x _ h.calm.1 h.asked h.number h.configured h.inUse hall (by omega) hxowed,
    himage.settled]
  rfl

/-- R125: the fill has eight segments. -/
theorem atLimit (h : s.ctl.IsolatesFillsBank tag bank b n ref a r rest)
    (hstate : (s.ctl.ctx n).state = .ramping ∨ (s.ctl.ctx n).state = .hold) (hlong : 8 ≤ r.segments.length) :
    ∃ t, exec (.isolateBank plantPort tag bank) s = .next t ∧
      ((s.ctl.lost b n a ref).answered plantPort rest ⟨0x90, tag, [0x00]⟩).endsFill t.ctl n .segmentLimit := by
  obtain ⟨hprecool, -, hclaim, -, -⟩ := h.kept (s.ctl.bank b).pressure
  obtain ⟨m, hm, hl⟩ := Leads.endsIn (c := s.ctl.isolating b rest tag)
    (e := .bankLost n ref.bank (s.ctl.bank b).pressure) (fun v =>
      (handle_bankLost_switches (c := s.ctl.isolating b rest tag) h.auth h.current h.record hstate v).trans
        (if_pos hlong)) hprecool hclaim
  exact h.ends .segmentLimit _ m (by omega) rfl hl

/-- R54 step 2: no bank could serve the fill. -/
theorem unserved (h : s.ctl.IsolatesFillsBank tag bank b n ref a r rest)
    (hstate : (s.ctl.ctx n).state = .ramping ∨ (s.ctl.ctx n).state = .hold) (hshort : r.segments.length < 8)
    (hwants : (s.ctl.lost b n a ref).wantsBank n) (hlow : (s.ctl.lost b n a ref).storageIsLow (claim s.ctl n a ref)) :
    ∃ t, exec (.isolateBank plantPort tag bank) s = .next t ∧
      ((s.ctl.lost b n a ref).answered plantPort rest ⟨0x90, tag, [0x00]⟩).endsFill t.ctl n .storageLow := by
  obtain ⟨hprecool, hlist, hclaim, -, -⟩ := h.kept (s.ctl.bank b).pressure
  have hholds : (((s.ctl.isolating b rest tag).losesBank n a ref (s.ctl.bank b).pressure).ctx n).state = .hold := by
    rw [losesBank_ctx]
    exact (Context.withCause_holds _ _ _ hstate).1
  obtain ⟨m, hm, hl⟩ := Leads.endsIn
    (c := (s.ctl.isolating b rest tag).losesBank n a ref (s.ctl.bank b).pressure)
    (y := (s.ctl.isolating b rest tag).losesBank n a ref (s.ctl.bank b).pressure) (n := n) (why := .storageLow)
    (e := .storageLow n) (fun v => by
      rw [handle, storageLow,
        show (({ (s.ctl.isolating b rest tag).losesBank n a ref (s.ctl.bank b).pressure with owed := v } :
          Controller).ctx n).state = .hold from hholds]) hprecool hclaim
  have hrequest : Leads (m + 1) [.bankRequest (claim s.ctl n a ref)]
      ((s.ctl.isolating b rest tag).losesBank n a ref (s.ctl.bank b).pressure) _ :=
    Leads.cons (told := [.storageLow n]) (fun v => bankRequest_low
      (c := { (s.ctl.isolating b rest tag).losesBank n a ref (s.ctl.bank b).pressure with owed := v })
      (by rw [h.image.rest]; exact hwants) hlist (by rw [h.image.rest]; exact hlow)) hl
  exact h.ends .storageLow _ _ (by omega) rfl (Leads.requests h hstate hshort hrequest)

/-- R109: the fill is in its leak check. -/
theorem interrupted (h : s.ctl.IsolatesFillsBank tag bank b n ref a r rest)
    (hstate : (s.ctl.ctx n).state = .leakCheck) :
    ∃ t, exec (.isolateBank plantPort tag bank) s = .next t ∧
      ((s.ctl.lost b n a ref).answered plantPort rest ⟨0x90, tag, [0x00]⟩).endsFill t.ctl n .leakCheckInterrupted := by
  obtain ⟨hprecool, -, hclaim, -, -⟩ := h.kept (s.ctl.bank b).pressure
  obtain ⟨m, hm, hl⟩ := Leads.endsIn (c := s.ctl.isolating b rest tag)
    (e := .bankLost n ref.bank (s.ctl.bank b).pressure)
    (handle_bankLost_ends (c := s.ctl.isolating b rest tag) h.auth h.current hstate) hprecool hclaim
  exact h.ends .leakCheckInterrupted _ m (by omega) rfl hl

end IsolatesFillsBank
end Controller

/-- R44: an IDLE bank, which nobody waits for, is isolated. -/
theorem exec_isolateBank_idle (s : State) (tag bank : Octet) (b : BankId) (rest : List Telegram) (h : s.ctl.atRest)
    (ha : s.ctl.asked plantPort ⟨0x10, tag, [bank]⟩ rest) (hbank : bank.toNat = b.val + 1)
    (hb : b.val < s.ctl.alloc.bankCount) (hidle : (s.ctl.bank b).state = .idle) (hholder : (s.ctl.bank b).holder = none)
    (horder : (s.ctl.bank b).order = none) (hpending : (s.ctl.bank b).releasePending = false)
    (hnext : (s.ctl.bank b).nextHolder = none) (hquiet : Controller.unscheduled s.ctl.sched b) :
    exec (.isolateBank plantPort tag bank) s = .next (s.withCtl
      ((s.ctl.setBank b { s.ctl.bank b with state := .isolated }).answered plantPort rest ⟨0x90, tag, [0x00]⟩)) := by
  have hisolate : (s.ctl.bank b).isolate = { s.ctl.bank b with state := .isolated } := by
    simp [BankRec.isolate, hholder, horder, hpending, hnext]
  have htells : s.ctl.tellsIsolation b = [.bankIsolated b] := by
    rw [Controller.tellsIsolation, hholder, hnext]
    rfl
  have hroom : s.ctl.roomFor plantPort (0 + 1) := fun _ => ⟨ha.2.1, ha.2.2.1⟩
  rw [exec_isolateBank s tag bank b rest (s.ctl.isolating b rest tag) 1 h ha hbank hb (by simp [hidle])
    (by rw [htells]; exact Controller.Leads.isolated hquiet) (by omega) h.2.1,
    (Controller.isolating_lags h b tag ha hroom).settled, hisolate]
  rfl

end Sys2Proof.Machine

open Sys2Proof Sys2Proof.Machine in
/-- Settles O35: an isolation tells the bank's holder and the Scheduler; no event of a step frees an isolated bank, and
a fill goes on as it does when its bank is released in a switch. -/
theorem bankIsIsolated : Obligations.bank_is_isolated := by
  unfold Obligations.bank_is_isolated
  refine ⟨fun s tag bank b rest h ha => ?_,
    fun s tag bank b rest h ha hbank hb hstate => exec_isolateBank_isolates s tag bank b rest h ha hbank hb hstate,
    fun s b o h ho hclosed htimer => exec_valveCloseTimeout_isolates s b o h ho hclosed htimer,
    fun s tag bank b n ref a r f rest h ha hroom hnozzle => ?_⟩
  · intro c answered
    refine ⟨fun hout => ?_, fun hbank hb => ⟨fun hstate => ?_, fun hidle hholder horder hpending hnext hq hcl hheld => ?_⟩⟩
    · refine exec_isolateBank_quiet s tag bank rest .argument h ha ?_
      rw [Controller.carryIsolate, (s.ctl.carrying plantPort rest).bankNamed_none bank hout]
      exact Controller.refuse_eq _ _ .argument (by simp)
    · refine exec_isolateBank_quiet s tag bank rest .ok h ha ?_
      rw [Controller.carryIsolate, (s.ctl.carrying plantPort rest).bankNamed_of bank b hbank hb]
      exact congrArg (fun e : Eff => e.ok []) (if_pos hstate)
    · exact exec_isolateBank_idle s tag bank b rest h ha hbank hb hidle hholder horder hpending hnext ⟨hq, hcl, hheld⟩
  · intro c x hbank hb hstate hnext hholder href hrefb hfill hq hcl hheld lost ended claim
    have hall : s.ctl.IsolatesFillsBank tag bank b n ref a r rest :=
      ⟨h, ha, hroom, hnozzle, hbank, hb, hstate, hnext, hholder, href, hrefb, hfill.1, hfill.2.1, hq, hcl, hheld⟩
    have hlost : lost = s.ctl.lost b n a ref := rfl
    have hclaim : claim = Controller.IsolatesFillsBank.claim s.ctl n a ref := rfl
    clear_value lost claim
    subst hlost hclaim
    refine ⟨fun hwaits hshort hwants hlow hrefills => ?_, fun hwaits => ⟨fun hlong => hall.atLimit hwaits hlong,
      fun hshort hwants hlow => hall.unserved hwaits hshort hwants hlow⟩, fun hcheck => hall.interrupted hcheck⟩
    exact ⟨_, hall.goesOn hwaits hshort hwants hlow hrefills, rfl, rfl⟩
end
